-- ==== Sys2Proof/Word.lean ====
section
/-! DEFINITION. The byte, and nothing else: every wider value of WPANSCAN is a `BitVec` of its own width. -/

namespace Sys2Proof

/-- A byte of a frame buffer (20_memory.md R50). -/
abbrev Byte := BitVec 8

end Sys2Proof
end

