-- ==== Sys2Proof/Config.lean ====
section
/-! DEFINITION. What an implementation of WPANSCAN fixes: the parameters of 00_scope.md R7, and the one open
parameter, ARB_TIE. -/

namespace Sys2Proof

/-- Who wins a tie of the race (92_eei_decisions.md D14). -/
inductive ArbTie where
  | rxFirst
  | hopFirst
deriving DecidableEq, Repr, Inhabited

namespace Config

/-- ARB_TIE, OPEN in the spec (00_scope.md R7, 44_scan_loop.md R184, D14): a constant with no body, so that a claim
holds for both values (assumption log 5). -/
opaque arbTie : ArbTie

/-- MAX_FRAME_LEN: the bytes of a buffer, FCS excluded (00_scope.md R7, D7). -/
def maxFrameLen : Nat := 125

/-- REQ_FRAME_VERSION (00_scope.md R7, D6). -/
def reqFrameVersion : BitVec 2 := 0

/-- RESET_CH_IDX (00_scope.md R7, D8). -/
def resetChIdx : BitVec 4 := 0

/-- RESET_SEQ (00_scope.md R7, D9). -/
def resetSeq : BitVec 8 := 0

/-- CHANNELS, the read-only table of 10_state.md R33: eleven to twenty-six, ascending. -/
def channels : List (BitVec 5) := [11, 12, 13, 14, 15, 16, 17, 18, 19, 20, 21, 22, 23, 24, 25, 26]

/-- HOP_PERIOD in microseconds: 2 s (00_scope.md R7). -/
def hopPeriod : Nat := 2000000

/-- QUIET_DELAY in microseconds: 100 µs (00_scope.md R7). -/
def quietDelay : Nat := 100

end Config

end Sys2Proof
end

