-- ==== Sys2Proof/Syntax.lean ====
section
/-! DEFINITION. The operation set of WPANSCAN (00_scope.md R2): the ten formats of spec/opcode_table.json and one
constructor for each of its 52 rows, with the fields of the row's word as operands. -/

namespace Sys2Proof

/-- The formats of spec/opcode_table.json, each with its selector field (30_encoding.md R96). -/
inductive Format where
  | fcfFrameType
  | fcfDstAddrMode
  | fcfSrcAddrMode
  | fcfFrameVersion
  | macCommandId
  | radioCmd
  | radioRsp
  | event
  | fsmState
  | internalOp
deriving DecidableEq, Repr

/-- The frame control field, its 16 bits taken apart as 30_encoding.md R71 lays them out (`resv` is bits 9:7). -/
structure Fcf where
  ftype   : BitVec 3
  sec     : Bool
  pend    : Bool
  ackreq  : Bool
  pidc    : Bool
  resv    : BitVec 3
  dstMode : BitVec 2
  fver    : BitVec 2
  srcMode : BitVec 2
deriving DecidableEq, Repr

/-- The operation set: one constructor per row of spec/opcode_table.json, in the table's order. -/
inductive Instr where
  -- format fcf_frame_type
  | frameBeacon (f : Fcf)
  | frameData (f : Fcf)
  | frameAck (f : Fcf)
  | frameCommand (f : Fcf)
  | frameTypeReserved (f : Fcf)
  -- format fcf_dst_addr_mode
  | dstNone (f : Fcf)
  | dstModeReserved (f : Fcf)
  | dstShort (f : Fcf)
  | dstExt (f : Fcf)
  -- format fcf_src_addr_mode
  | srcNone (f : Fcf)
  | srcModeReserved (f : Fcf)
  | srcShort (f : Fcf)
  | srcExt (f : Fcf)
  -- format fcf_frame_version
  | version2003 (f : Fcf)
  | version2006 (f : Fcf)
  | versionReserved (f : Fcf)
  -- format mac_command_id
  | cmdBeaconRequest
  | cmdOther (cid : BitVec 8)
  -- format radio_cmd
  | tune (chan : BitVec 5)
  | rxStart
  | rxAbort
  | txStart (len : BitVec 7)
  -- format radio_rsp; RX_OK hands over the frame's bytes with its word (30_encoding.md R88)
  | rxOk (bytes : List Byte)
  | rxCrc (crc : BitVec 16)
  | rxErr (err : BitVec 8)
  | txOk
  | txErr (err : BitVec 8)
  | rspReserved (kind : BitVec 3)
  -- format event; DECODE_ERROR carries its raw bytes after the header (30_encoding.md R90)
  | beaconObserved (chan : BitVec 5) (pan : BitVec 16) (smode : BitVec 2) (saddr : BitVec 64) (coord join : Bool)
  | decodeError (chan : BitVec 5) (code : BitVec 8) (raw : List Byte)
  | linkQualityFault (chan : BitVec 5) (crc : BitVec 16)
  | receiveFault (chan : BitVec 5) (kind : BitVec 8)
  | requestSent (chan : BitVec 5) (seq : BitVec 8)
  | transmitFault (chan : BitVec 5) (seq : BitVec 8) (kind : BitVec 8)
  | eventReserved (code : BitVec 3)
  -- format fsm_state
  | sInit
  | sIdle
  | sRacing
  | sRx
  | sHopPrep
  | sHopTxwait
  | sQuiet
  | stReserved
  -- format internal_op
  | current
  | advance
  | buildRequest
  | encode
  | decode
  | classify
  | tick
  | iopReserved7
  | iopReserved8F (iop : BitVec 4)
deriving DecidableEq, Repr

/-- The format a row stands under. -/
def Instr.format : Instr → Format
  | .frameBeacon _ | .frameData _ | .frameAck _ | .frameCommand _ | .frameTypeReserved _ => .fcfFrameType
  | .dstNone _ | .dstModeReserved _ | .dstShort _ | .dstExt _ => .fcfDstAddrMode
  | .srcNone _ | .srcModeReserved _ | .srcShort _ | .srcExt _ => .fcfSrcAddrMode
  | .version2003 _ | .version2006 _ | .versionReserved _ => .fcfFrameVersion
  | .cmdBeaconRequest | .cmdOther _ => .macCommandId
  | .tune _ | .rxStart | .rxAbort | .txStart _ => .radioCmd
  | .rxOk _ | .rxCrc _ | .rxErr _ | .txOk | .txErr _ | .rspReserved _ => .radioRsp
  | .beaconObserved _ _ _ _ _ _ | .decodeError _ _ _ | .linkQualityFault _ _ | .receiveFault _ _
  | .requestSent _ _ | .transmitFault _ _ _ | .eventReserved _ => .event
  | .sInit | .sIdle | .sRacing | .sRx | .sHopPrep | .sHopTxwait | .sQuiet | .stReserved => .fsmState
  | .current | .advance | .buildRequest | .encode | .decode | .classify | .tick | .iopReserved7
  | .iopReserved8F _ => .internalOp

/-- The row's mnemonic, as spec/opcode_table.json spells it. -/
def Instr.mnemonic : Instr → String
  | .frameBeacon _ => "FRAME_BEACON"
  | .frameData _ => "FRAME_DATA"
  | .frameAck _ => "FRAME_ACK"
  | .frameCommand _ => "FRAME_COMMAND"
  | .frameTypeReserved _ => "FRAME_TYPE_RESERVED"
  | .dstNone _ => "DST_NONE"
  | .dstModeReserved _ => "DST_MODE_RESERVED"
  | .dstShort _ => "DST_SHORT"
  | .dstExt _ => "DST_EXT"
  | .srcNone _ => "SRC_NONE"
  | .srcModeReserved _ => "SRC_MODE_RESERVED"
  | .srcShort _ => "SRC_SHORT"
  | .srcExt _ => "SRC_EXT"
  | .version2003 _ => "VERSION_2003"
  | .version2006 _ => "VERSION_2006"
  | .versionReserved _ => "VERSION_RESERVED"
  | .cmdBeaconRequest => "CMD_BEACON_REQUEST"
  | .cmdOther _ => "CMD_OTHER"
  | .tune _ => "TUNE"
  | .rxStart => "RX_START"
  | .rxAbort => "RX_ABORT"
  | .txStart _ => "TX_START"
  | .rxOk _ => "RX_OK"
  | .rxCrc _ => "RX_CRC"
  | .rxErr _ => "RX_ERR"
  | .txOk => "TX_OK"
  | .txErr _ => "TX_ERR"
  | .rspReserved _ => "RSP_RESERVED"
  | .beaconObserved _ _ _ _ _ _ => "BEACON_OBSERVED"
  | .decodeError _ _ _ => "DECODE_ERROR"
  | .linkQualityFault _ _ => "LINK_QUALITY_FAULT"
  | .receiveFault _ _ => "RECEIVE_FAULT"
  | .requestSent _ _ => "REQUEST_SENT"
  | .transmitFault _ _ _ => "TRANSMIT_FAULT"
  | .eventReserved _ => "EVENT_RESERVED"
  | .sInit => "S_INIT"
  | .sIdle => "S_IDLE"
  | .sRacing => "S_RACING"
  | .sRx => "S_RX"
  | .sHopPrep => "S_HOP_PREP"
  | .sHopTxwait => "S_HOP_TXWAIT"
  | .sQuiet => "S_QUIET"
  | .stReserved => "ST_RESERVED"
  | .current => "CURRENT"
  | .advance => "ADVANCE"
  | .buildRequest => "BUILD_REQUEST"
  | .encode => "ENCODE"
  | .decode => "DECODE"
  | .classify => "CLASSIFY"
  | .tick => "TICK"
  | .iopReserved7 => "IOP_RESERVED_7"
  | .iopReserved8F _ => "IOP_RESERVED_8_F"

end Sys2Proof
end

