-- ==== Sys2Proof/Decode.lean ====
section
/-! DEFINITION. Bytes to operations and back: the byte order of 20_memory.md R51 to R53 for the frame formats and, by the
model's choice, for the port words (assumption log 22), the layouts of 30_encoding.md, the decoder of each format (total; it
rejects by name), the encoder, and the opcode table itself as rows of mask and match (30_encoding.md R96). -/

namespace Sys2Proof

/-! ## Byte order: a frame's by 20_memory.md R51 and R53, a port word's by choice (assumption log 22) -/

/-- The value of bytes, least significant byte first. -/
def leNat : List Byte → Nat
  | [] => 0
  | b :: bs => b.toNat + 256 * leNat bs

/-- The `n` low bytes of a value, least significant byte first. -/
def leBytes : Nat → Nat → List Byte
  | 0, _ => []
  | n + 1, v => BitVec.ofNat 8 v :: leBytes n (v / 256)

/-! ## Words -/

/-- The frame control field's 16 bits (30_encoding.md R71). -/
def Fcf.toWord (f : Fcf) : BitVec 16 :=
  BitVec.ofNat 16 (f.ftype.toNat + 2 ^ 3 * f.sec.toNat + 2 ^ 4 * f.pend.toNat + 2 ^ 5 * f.ackreq.toNat
    + 2 ^ 6 * f.pidc.toNat + 2 ^ 7 * f.resv.toNat + 2 ^ 10 * f.dstMode.toNat + 2 ^ 12 * f.fver.toNat
    + 2 ^ 14 * f.srcMode.toNat)

/-- The frame control field read from its 16 bits (30_encoding.md R71). -/
def Fcf.ofWord (w : BitVec 16) : Fcf :=
  { ftype := w.extractLsb' 0 3
    sec := w.getLsbD 3
    pend := w.getLsbD 4
    ackreq := w.getLsbD 5
    pidc := w.getLsbD 6
    resv := w.extractLsb' 7 3
    dstMode := w.extractLsb' 10 2
    fver := w.extractLsb' 12 2
    srcMode := w.extractLsb' 14 2 }

/-- A radio command word, reserved bits 0 (30_encoding.md R86). -/
def rcmdWord (op : BitVec 2) (chan : BitVec 5) (len : BitVec 7) : BitVec 32 :=
  BitVec.ofNat 32 (op.toNat + 2 ^ 8 * chan.toNat + 2 ^ 16 * len.toNat)

/-- A radio response word, reserved bits 0 (30_encoding.md R88). -/
def rrspWord (kind : BitVec 3) (len : BitVec 7) (err : BitVec 8) (crc : BitVec 16) : BitVec 48 :=
  BitVec.ofNat 48 (kind.toNat + 2 ^ 8 * len.toNat + 2 ^ 16 * err.toNat + 2 ^ 32 * crc.toNat)

/-- An event record's header word, reserved bits 0 (30_encoding.md R90). -/
def evtWord (code : BitVec 3) (chan : BitVec 5) (seq : BitVec 8) (v16 : BitVec 16) (smode : BitVec 2)
    (coord join : Bool) (k8 : BitVec 8) (len : BitVec 7) (saddr : BitVec 64) : BitVec 128 :=
  BitVec.ofNat 128 (code.toNat + 2 ^ 3 * chan.toNat + 2 ^ 8 * seq.toNat + 2 ^ 16 * v16.toNat
    + 2 ^ 32 * smode.toNat + 2 ^ 34 * coord.toNat + 2 ^ 35 * join.toNat + 2 ^ 36 * k8.toNat + 2 ^ 44 * len.toNat
    + 2 ^ 64 * saddr.toNat)

/-! ## The decoder -/

/-- Why bytes are no word of a format. -/
inductive DecodeReject where
  /-- Fewer bytes than the format's word has. -/
  | truncatedWord
  /-- A one-byte format with a bit set above its width (`st` has 3 bits, IOP has 4). -/
  | strayBits
  /-- Fewer bytes follow the word than its `len` field hands over. -/
  | truncatedPayload
deriving DecidableEq, Repr

/-- The bytes of a format's word (30_encoding.md R70; the match and mask of opcode_table.json). -/
def Format.bytes : Format → Nat
  | .fcfFrameType | .fcfDstAddrMode | .fcfSrcAddrMode | .fcfFrameVersion => 2
  | .macCommandId => 1
  | .radioCmd => 4
  | .radioRsp => 6
  | .event => 16
  | .fsmState => 1
  | .internalOp => 1

/-- FCF bits 2:0 (30_encoding.md R72). -/
def decodeFrameType (f : Fcf) : Instr :=
  match f.ftype.toNat with
  | 0 => .frameBeacon f
  | 1 => .frameData f
  | 2 => .frameAck f
  | 3 => .frameCommand f
  | _ => .frameTypeReserved f

/-- FCF bits 11:10 (30_encoding.md R73). -/
def decodeDstMode (f : Fcf) : Instr :=
  match f.dstMode.toNat with
  | 0 => .dstNone f
  | 1 => .dstModeReserved f
  | 2 => .dstShort f
  | _ => .dstExt f

/-- FCF bits 15:14 (30_encoding.md R73). -/
def decodeSrcMode (f : Fcf) : Instr :=
  match f.srcMode.toNat with
  | 0 => .srcNone f
  | 1 => .srcModeReserved f
  | 2 => .srcShort f
  | _ => .srcExt f

/-- FCF bits 13:12 (30_encoding.md R74). -/
def decodeVersion (f : Fcf) : Instr :=
  match f.fver.toNat with
  | 0 => .version2003 f
  | 1 => .version2006 f
  | _ => .versionReserved f

/-- The command identifier byte (30_encoding.md R83). -/
def decodeCommandId (cid : BitVec 8) : Instr :=
  if cid = 7 then .cmdBeaconRequest else .cmdOther cid

/-- RCMD bits 1:0; reserved bits are ignored (30_encoding.md R86, R87, R94). -/
def decodeRcmd (w : BitVec 32) : Instr :=
  match (w.extractLsb' 0 2).toNat with
  | 0 => .tune (w.extractLsb' 8 5)
  | 1 => .rxStart
  | 2 => .rxAbort
  | _ => .txStart (w.extractLsb' 16 7)

/-- Take the `n` bytes a word hands over. -/
def takePayload (n : Nat) (rest : List Byte) : Except DecodeReject (List Byte × List Byte) :=
  if rest.length < n then .error .truncatedPayload else .ok (rest.take n, rest.drop n)

/-- RRSP bits 2:0; reserved bits are ignored (30_encoding.md R88, R89, R94). -/
def decodeRrsp (w : BitVec 48) (rest : List Byte) : Except DecodeReject (Instr × List Byte) :=
  match (w.extractLsb' 0 3).toNat with
  | 0 => (takePayload (w.extractLsb' 8 7).toNat rest).map fun x => (.rxOk x.1, x.2)
  | 1 => .ok (.rxCrc (w.extractLsb' 32 16), rest)
  | 2 => .ok (.rxErr (w.extractLsb' 16 8), rest)
  | 3 => .ok (.txOk, rest)
  | 4 => .ok (.txErr (w.extractLsb' 16 8), rest)
  | _ => .ok (.rspReserved (w.extractLsb' 0 3), rest)

/-- EVT bits 2:0; each row takes the fields 30_encoding.md R90 gives its record. -/
def decodeEvt (w : BitVec 128) (rest : List Byte) : Except DecodeReject (Instr × List Byte) :=
  let chan := w.extractLsb' 3 5
  let seq := w.extractLsb' 8 8
  let v16 := w.extractLsb' 16 16
  let k8 := w.extractLsb' 36 8
  match (w.extractLsb' 0 3).toNat with
  | 0 => .ok (.beaconObserved chan v16 (w.extractLsb' 32 2) (w.extractLsb' 64 64) (w.getLsbD 34) (w.getLsbD 35), rest)
  | 1 => (takePayload (w.extractLsb' 44 7).toNat rest).map fun x => (.decodeError chan k8 x.1, x.2)
  | 2 => .ok (.linkQualityFault chan v16, rest)
  | 3 => .ok (.receiveFault chan k8, rest)
  | 4 => .ok (.requestSent chan seq, rest)
  | 5 => .ok (.transmitFault chan seq k8, rest)
  | _ => .ok (.eventReserved (w.extractLsb' 0 3), rest)

/-- The state register's code (10_state.md R21). -/
def decodeState (v : Nat) : Except DecodeReject Instr :=
  match v with
  | 0 => .ok .sInit
  | 1 => .ok .sIdle
  | 2 => .ok .sRacing
  | 3 => .ok .sRx
  | 4 => .ok .sHopPrep
  | 5 => .ok .sHopTxwait
  | 6 => .ok .sQuiet
  | 7 => .ok .stReserved
  | _ => .error .strayBits

/-- The internal operation code (30_encoding.md R93). -/
def decodeIop (v : Nat) : Except DecodeReject Instr :=
  match v with
  | 0 => .ok .current
  | 1 => .ok .advance
  | 2 => .ok .buildRequest
  | 3 => .ok .encode
  | 4 => .ok .decode
  | 5 => .ok .classify
  | 6 => .ok .tick
  | 7 => .ok .iopReserved7
  | _ => if v < 16 then .ok (.iopReserved8F (BitVec.ofNat 4 v)) else .error .strayBits

/-- The decoder: a format and bytes to the operation and the bytes after it, or a rejection by name. The frame control
field's bytes are little-endian by 20_memory.md R51; that a port word (RCMD, RRSP, EVT) has its least significant byte first
is the model's choice (DESIGN CHOICE, assumption log 22). -/
def decode (fmt : Format) (bs : List Byte) : Except DecodeReject (Instr × List Byte) :=
  if bs.length < fmt.bytes then .error .truncatedWord
  else
    let v := leNat (bs.take fmt.bytes)
    let rest := bs.drop fmt.bytes
    match fmt with
    | .fcfFrameType => .ok (decodeFrameType (Fcf.ofWord (BitVec.ofNat 16 v)), rest)
    | .fcfDstAddrMode => .ok (decodeDstMode (Fcf.ofWord (BitVec.ofNat 16 v)), rest)
    | .fcfSrcAddrMode => .ok (decodeSrcMode (Fcf.ofWord (BitVec.ofNat 16 v)), rest)
    | .fcfFrameVersion => .ok (decodeVersion (Fcf.ofWord (BitVec.ofNat 16 v)), rest)
    | .macCommandId => .ok (decodeCommandId (BitVec.ofNat 8 v), rest)
    | .radioCmd => .ok (decodeRcmd (BitVec.ofNat 32 v), rest)
    | .radioRsp => decodeRrsp (BitVec.ofNat 48 v) rest
    | .event => decodeEvt (BitVec.ofNat 128 v) rest
    | .fsmState => (decodeState v).map fun i => (i, rest)
    | .internalOp => (decodeIop v).map fun i => (i, rest)

/-! ## The encoder -/

/-- The value of a row's word (30_encoding.md R71 to R93); fields a row does not use and reserved bits are 0. -/
def encodeWord : Instr → Nat
  | .frameBeacon f | .frameData f | .frameAck f | .frameCommand f | .frameTypeReserved f => f.toWord.toNat
  | .dstNone f | .dstModeReserved f | .dstShort f | .dstExt f => f.toWord.toNat
  | .srcNone f | .srcModeReserved f | .srcShort f | .srcExt f => f.toWord.toNat
  | .version2003 f | .version2006 f | .versionReserved f => f.toWord.toNat
  | .cmdBeaconRequest => 7
  | .cmdOther cid => cid.toNat
  | .tune chan => (rcmdWord 0 chan 0).toNat
  | .rxStart => (rcmdWord 1 0 0).toNat
  | .rxAbort => (rcmdWord 2 0 0).toNat
  | .txStart len => (rcmdWord 3 0 len).toNat
  | .rxOk bytes => (rrspWord 0 (BitVec.ofNat 7 bytes.length) 0 0).toNat
  | .rxCrc crc => (rrspWord 1 0 0 crc).toNat
  | .rxErr err => (rrspWord 2 0 err 0).toNat
  | .txOk => (rrspWord 3 0 0 0).toNat
  | .txErr err => (rrspWord 4 0 err 0).toNat
  | .rspReserved kind => (rrspWord kind 0 0 0).toNat
  | .beaconObserved chan pan smode saddr coord join => (evtWord 0 chan 0 pan smode coord join 0 0 saddr).toNat
  | .decodeError chan code raw => (evtWord 1 chan 0 0 0 false false code (BitVec.ofNat 7 raw.length) 0).toNat
  | .linkQualityFault chan crc => (evtWord 2 chan 0 crc 0 false false 0 0 0).toNat
  | .receiveFault chan kind => (evtWord 3 chan 0 0 0 false false kind 0 0).toNat
  | .requestSent chan seq => (evtWord 4 chan seq 0 0 false false 0 0 0).toNat
  | .transmitFault chan seq kind => (evtWord 5 chan seq 0 0 false false kind 0 0).toNat
  | .eventReserved code => (evtWord code 0 0 0 0 false false 0 0 0).toNat
  | .sInit => 0
  | .sIdle => 1
  | .sRacing => 2
  | .sRx => 3
  | .sHopPrep => 4
  | .sHopTxwait => 5
  | .sQuiet => 6
  | .stReserved => 7
  | .current => 0
  | .advance => 1
  | .buildRequest => 2
  | .encode => 3
  | .decode => 4
  | .classify => 5
  | .tick => 6
  | .iopReserved7 => 7
  | .iopReserved8F iop => iop.toNat

/-- The bytes handed over with a word (30_encoding.md R88, R90). -/
def encodePayload : Instr → List Byte
  | .rxOk bytes => bytes
  | .decodeError _ _ raw => raw
  | _ => []

/-- The encoder: the word of a row in its byte order (a port word's least significant byte first, DESIGN CHOICE, assumption
log 22), and the bytes handed over with it. -/
def encode (i : Instr) : List Byte := leBytes i.format.bytes (encodeWord i) ++ encodePayload i

/-! ## The opcode table (30_encoding.md R96) -/

/-- A row of spec/opcode_table.json. -/
structure OpcodeRow where
  name  : String
  fmt   : Format
  value : Nat
  mask  : Nat
deriving DecidableEq, Repr

/-- The rows of the frame formats, in file order. -/
def opcodeRowsFrame : List OpcodeRow :=
  [ ⟨"FRAME_BEACON", .fcfFrameType, 0x0000, 0x0007⟩,
    ⟨"FRAME_DATA", .fcfFrameType, 0x0001, 0x0007⟩,
    ⟨"FRAME_ACK", .fcfFrameType, 0x0002, 0x0007⟩,
    ⟨"FRAME_COMMAND", .fcfFrameType, 0x0003, 0x0007⟩,
    ⟨"FRAME_TYPE_RESERVED", .fcfFrameType, 0x0004, 0x0004⟩,
    ⟨"DST_NONE", .fcfDstAddrMode, 0x0000, 0x0C00⟩,
    ⟨"DST_MODE_RESERVED", .fcfDstAddrMode, 0x0400, 0x0C00⟩,
    ⟨"DST_SHORT", .fcfDstAddrMode, 0x0800, 0x0C00⟩,
    ⟨"DST_EXT", .fcfDstAddrMode, 0x0C00, 0x0C00⟩,
    ⟨"SRC_NONE", .fcfSrcAddrMode, 0x0000, 0xC000⟩,
    ⟨"SRC_MODE_RESERVED", .fcfSrcAddrMode, 0x4000, 0xC000⟩,
    ⟨"SRC_SHORT", .fcfSrcAddrMode, 0x8000, 0xC000⟩,
    ⟨"SRC_EXT", .fcfSrcAddrMode, 0xC000, 0xC000⟩,
    ⟨"VERSION_2003", .fcfFrameVersion, 0x0000, 0x3000⟩,
    ⟨"VERSION_2006", .fcfFrameVersion, 0x1000, 0x3000⟩,
    ⟨"VERSION_RESERVED", .fcfFrameVersion, 0x2000, 0x2000⟩,
    ⟨"CMD_BEACON_REQUEST", .macCommandId, 0x07, 0xFF⟩,
    ⟨"CMD_OTHER", .macCommandId, 0x00, 0x00⟩ ]

/-- The rows of the port formats, in file order. -/
def opcodeRowsPort : List OpcodeRow :=
  [ ⟨"TUNE", .radioCmd, 0, 3⟩,
    ⟨"RX_START", .radioCmd, 1, 3⟩,
    ⟨"RX_ABORT", .radioCmd, 2, 3⟩,
    ⟨"TX_START", .radioCmd, 3, 3⟩,
    ⟨"RX_OK", .radioRsp, 0, 7⟩,
    ⟨"RX_CRC", .radioRsp, 1, 7⟩,
    ⟨"RX_ERR", .radioRsp, 2, 7⟩,
    ⟨"TX_OK", .radioRsp, 3, 7⟩,
    ⟨"TX_ERR", .radioRsp, 4, 7⟩,
    ⟨"RSP_RESERVED", .radioRsp, 4, 4⟩,
    ⟨"BEACON_OBSERVED", .event, 0, 7⟩,
    ⟨"DECODE_ERROR", .event, 1, 7⟩,
    ⟨"LINK_QUALITY_FAULT", .event, 2, 7⟩,
    ⟨"RECEIVE_FAULT", .event, 3, 7⟩,
    ⟨"REQUEST_SENT", .event, 4, 7⟩,
    ⟨"TRANSMIT_FAULT", .event, 5, 7⟩,
    ⟨"EVENT_RESERVED", .event, 6, 6⟩ ]

/-- The rows of the state register and of the internal operations, in file order. -/
def opcodeRowsInternal : List OpcodeRow :=
  [ ⟨"S_INIT", .fsmState, 0, 7⟩,
    ⟨"S_IDLE", .fsmState, 1, 7⟩,
    ⟨"S_RACING", .fsmState, 2, 7⟩,
    ⟨"S_RX", .fsmState, 3, 7⟩,
    ⟨"S_HOP_PREP", .fsmState, 4, 7⟩,
    ⟨"S_HOP_TXWAIT", .fsmState, 5, 7⟩,
    ⟨"S_QUIET", .fsmState, 6, 7⟩,
    ⟨"ST_RESERVED", .fsmState, 7, 7⟩,
    ⟨"CURRENT", .internalOp, 0, 15⟩,
    ⟨"ADVANCE", .internalOp, 1, 15⟩,
    ⟨"BUILD_REQUEST", .internalOp, 2, 15⟩,
    ⟨"ENCODE", .internalOp, 3, 15⟩,
    ⟨"DECODE", .internalOp, 4, 15⟩,
    ⟨"CLASSIFY", .internalOp, 5, 15⟩,
    ⟨"TICK", .internalOp, 6, 15⟩,
    ⟨"IOP_RESERVED_7", .internalOp, 7, 15⟩,
    ⟨"IOP_RESERVED_8_F", .internalOp, 8, 8⟩ ]

/-- spec/opcode_table.json: its 52 rows in file order. -/
def opcodeTable : List OpcodeRow := opcodeRowsFrame ++ opcodeRowsPort ++ opcodeRowsInternal

/-- The row a value of a format selects: the first in file order with `(w & mask) = match` (30_encoding.md R96). -/
def selectRow (fmt : Format) (v : Nat) : Option OpcodeRow :=
  opcodeTable.find? fun r => r.fmt == fmt && v &&& r.mask == r.value

/-! ## The table's words, which carry no format -/

/-- The format a bare table word is read in (assumption log 11): by its width, and among the formats of one width by
its value. Sixteen bits are an FCF, read by the selector field the word sets (frame type first); eight bits are a state
code below 8, an operation code below 16, else a command identifier. -/
def tableFormat (nbits w : Nat) : Format :=
  if nbits ≤ 8 then
    if w < 8 then .fsmState else if w < 16 then .internalOp else .macCommandId
  else if nbits ≤ 16 then
    if w &&& 0x0007 ≠ 0 then .fcfFrameType
    else if w &&& 0x0C00 ≠ 0 then .fcfDstAddrMode
    else if w &&& 0xC000 ≠ 0 then .fcfSrcAddrMode
    else if w &&& 0x3000 ≠ 0 then .fcfFrameVersion
    else .fcfFrameType
  else if nbits ≤ 32 then .radioCmd
  else if nbits ≤ 48 then .radioRsp
  else .event

/-- A table word laid out in bytes, least significant first (assumption log 22), every bit above it 0, as long as the
longest row can be: an event header and the 127 bytes a 7-bit length can hand over. -/
def tableBytes (nbits w : Nat) : List Byte := leBytes 143 (w % 2 ^ nbits)

/-- The operation the decoder reads from a table word. -/
def decodeTableWord (nbits w : Nat) : Option Instr :=
  match decode (tableFormat nbits (w % 2 ^ nbits)) (tableBytes nbits w) with
  | .ok (i, _) => some i
  | .error _ => none

end Sys2Proof
end

