-- ==== Sys2Proof/Machine/State.lean ====
section
/-! DEFINITION. The state of WPANSCAN (10_state.md R20, exactly its elements, and two fields of the model's own), the
values it is made of, the reasons a step can stop, and the state after reset (70_reset_and_hazards.md R260). -/

namespace Sys2Proof.Machine

/-! ## Frames as values (40_frame_codec.md R110 to R112) -/

/-- An address slot of a frame record, held as mode, PAN identifier and address (40_frame_codec.md R111). -/
structure Addr where
  mode : BitVec 2
  pan  : BitVec 16
  addr : BitVec 64
deriving DecidableEq, Repr

/-- A frame's content (40_frame_codec.md R112). -/
inductive Content where
  | beacon (sf : BitVec 16) (gtsCnt pendS pendE : BitVec 3)
  | data
  | other
  | command (cid : BitVec 8)
deriving DecidableEq, Repr

/-- A frame record (40_frame_codec.md R110). -/
structure Frame where
  ftype   : BitVec 3
  sec     : Bool
  pend    : Bool
  ackreq  : Bool
  pidc    : Bool
  fver    : BitVec 2
  seq     : BitVec 8
  dst     : Addr
  src     : Addr
  content : Content
  pl      : List Byte
deriving DecidableEq, Repr

/-- FDEC's error codes (30_encoding.md R92). -/
inductive DecErr where
  | truncated
  | frameType
  | security
  | addrMode
  | version
  | panidComp
deriving DecidableEq, Repr

/-- CLASSIFY's tuple (42_beacon_classifier.md R160). -/
structure Observation where
  pan   : BitVec 16
  smode : BitVec 2
  saddr : BitVec 64
  coord : Bool
  join  : Bool
deriving DecidableEq, Repr

/-! ## The traces -/

/-- The event codes that are emitted (30_encoding.md R91). -/
inductive EvtCode where
  | beaconObserved
  | decodeError
  | linkQualityFault
  | receiveFault
  | requestSent
  | transmitFault
deriving DecidableEq, Repr

/-- An event record: the fields of its header and its raw bytes (30_encoding.md R90). The header's `len` is the number
of raw bytes. -/
structure Evt where
  code  : EvtCode
  chan  : BitVec 5
  seq   : BitVec 8 := 0
  v16   : BitVec 16 := 0
  smode : BitVec 2 := 0
  coord : Bool := false
  join  : Bool := false
  k8    : BitVec 8 := 0
  saddr : BitVec 64 := 0
  raw   : List Byte := []
deriving DecidableEq, Repr

/-- A radio command (30_encoding.md R86, R87). -/
inductive Rcmd where
  | tune (chan : BitVec 5)
  | rxStart
  | rxAbort
  | txStart (len : BitVec 7)
deriving DecidableEq, Repr

/-! ## Memory -/

/-- A frame buffer: the offsets that hold a value, rising, each with its byte. An offset that is not listed holds no
value (20_memory.md R68: "A model gives them no value"); assumption log 4. -/
abbrev Memory := List Host.Cell

/-! ## The model's own fields -/

/-- What the internal operations and the decode classes return when they run by themselves (assumption log 1). The
spec calls these values transient and gives them no state (10_state.md R40): no agent's step reads or writes them. -/
structure Datapath where
  /-- CURRENT's channel. -/
  chan  : BitVec 5
  /-- The frame record BUILD_REQUEST or DECODE last produced; ENCODE's and CLASSIFY's operand. -/
  frame : Frame
  /-- The error of the last decode, none for `Ok`. -/
  derr  : Option DecErr
  /-- ENCODE's number of bytes. -/
  len   : BitVec 7
  /-- CLASSIFY's tuple. -/
  obs   : Option Observation
deriving DecidableEq, Repr

/-- One step of one agent still to come, or a line of a stimulus script (30_encoding.md R99); assumption log 2. -/
inductive Item where
  /-- Reset is applied (70_reset_and_hazards.md R260). -/
  | reset
  /-- The FSM moves: it takes its enabled step, or waits. -/
  | fsm
  /-- The script's `step`: the FSM takes its one enabled step; an error if none is enabled. -/
  | step
  /-- The script's `run`: the FSM takes steps while it has an enabled step. -/
  | run
  /-- A transaction of a port, or an operation driven by itself: the bytes of a word of a format. -/
  | op (fmt : Format) (bytes : List Byte)
deriving DecidableEq, Repr

/-! ## The state -/

/-- The state of WPANSCAN. -/
structure State where
  /-- The controller's state register (10_state.md R21). -/
  st : BitVec 3
  /-- The channel index (R23). -/
  chIdx : BitVec 4
  /-- The sequence counter (R24). -/
  seq : BitVec 8
  /-- The hop-tick latch (R25). -/
  tickPending : Bool
  /-- A receive is outstanding at the radio (R26). -/
  rxArmed : Bool
  /-- The receive-done latch and its response fields (R27). -/
  rxDonePending : Bool
  rxKind : BitVec 3
  rxLen : BitVec 7
  rxCrc : BitVec 16
  rxErr : BitVec 8
  /-- A transmit is outstanding at the radio (R28). -/
  txInflight : Bool
  /-- The transmit-done latch and its response fields (R29). -/
  txDonePending : Bool
  txKind : BitVec 3
  txErr : BitVec 8
  /-- The channel of the last TUNE (R30). -/
  tuneCh : BitVec 5
  /-- The transmit buffer and its length (R31). -/
  txBuf : Memory
  txLen : BitVec 7
  /-- The receive buffer (R32). -/
  rxBuf : Memory
  /-- The event trace, oldest first (R38). -/
  ev : List Evt
  /-- The radio command trace, oldest first (R39). -/
  rc : List Rcmd
  /-- The model's own: transient datapath values (assumption log 1). -/
  dp : Datapath
  /-- The model's own: the agents' steps to come (assumption log 2). -/
  agenda : List Item
deriving DecidableEq, Repr

/-! ## Stops -/

/-- The model's faults. -/
inductive Fault where
  /-- `raise ModelFault(ReservedState)`: the state register holds code 7 (10_state.md R22, 60_exceptions.md R244).
  Raised by ST_RESERVED and by any step but reset that finds `st = 7`. Safe: no rule reaches that state. -/
  | reservedState
  /-- A read of a receive buffer at an offset past its 125 bytes, an address that does not exist (20_memory.md R50,
  R56). Raised by S_RX, DECODE and the decode classes when `rx_len` is over 125. Safe: the machine stops. -/
  | offsetPastBuffer
  /-- A read of a buffer byte that holds no value (20_memory.md R68). Raised by S_RX, DECODE and the decode classes.
  Safe: the machine stops, and the spec says such a byte is never read. -/
  | unspecifiedByte
deriving DecidableEq, Repr

/-- The model's refusals. -/
inductive Refusal where
  /-- The operation has no meaning yet. Raised by no arm of this model. Safe. -/
  | notModelled (mnemonic : String)
  /-- `refuse(EncodeIllFormed)`: ENCODE was given a record for which WF fails (40_frame_codec.md R119). Raised by
  ENCODE and by S_HOP_PREP (never reached there). Safe. -/
  | encodeIllFormed
  /-- A receive response while none is enabled (45_interfaces.md R215 to R217, R230 (1)). Raised by RX_OK, RX_CRC,
  RX_ERR. Unsafe if a real radio breaks its contract (assumption log 14). -/
  | rxResponseNotEnabled
  /-- A transmit response while none is enabled (45_interfaces.md R218, R219, R230 (2)). Raised by TX_OK, TX_ERR.
  Unsafe if a real radio breaks its contract (assumption log 14). -/
  | txResponseNotEnabled
  /-- An RX_OK with more than MAX_FRAME_LEN bytes (45_interfaces.md R230 (4)). Raised by RX_OK. Unsafe if a real radio
  breaks its contract (assumption log 14). -/
  | frameTooLong
  /-- A response word of kind 101 to 111, which the radio never sends (30_encoding.md R89, 45_interfaces.md R230 (3)).
  Raised by RSP_RESERVED. Unsafe if a real radio breaks its contract (assumption log 14). -/
  | reservedResponse
  /-- An event code that is never emitted (30_encoding.md R91). Raised by EVENT_RESERVED. Safe. -/
  | reservedEvent
  /-- An operation code that is never used (30_encoding.md R93). Raised by IOP_RESERVED_7 and IOP_RESERVED_8_F.
  Safe. -/
  | reservedOperation
  /-- A script's `step` when the FSM has no enabled step: "an error if none is enabled" (30_encoding.md R99). Raised by
  the item `step`. Safe. -/
  | stepNotEnabled
  /-- Bytes on the agenda that are no word of their format. Raised by an item `op`. Safe. -/
  | undecodable (why : DecodeReject)
deriving DecidableEq, Repr

/-! ## Reset -/

/-- The address slot `NONE` (40_frame_codec.md R111). -/
def Addr.none : Addr := { mode := 0, pan := 0, addr := 0 }

/-- The frame record of the datapath at reset: all zero (assumption log 1). -/
def Frame.zero : Frame :=
  { ftype := 0, sec := false, pend := false, ackreq := false, pidc := false, fver := 0, seq := 0
    dst := Addr.none, src := Addr.none, content := .beacon 0 0 0 0, pl := [] }

/-- The datapath's transient values at reset: zeros and nothing (assumption log 1). -/
def Datapath.reset : Datapath :=
  { chan := 0, frame := Frame.zero, derr := .none, len := 0, obs := .none }

/-- The state after reset (70_reset_and_hazards.md R260). The fields the spec leaves unspecified are zero (assumption
log 3); the buffers list nothing (assumption log 4). -/
def State.reset : State :=
  { st := 0
    chIdx := Config.resetChIdx
    seq := Config.resetSeq
    tickPending := false
    rxArmed := false
    rxDonePending := false
    rxKind := 0
    rxLen := 0
    rxCrc := 0
    rxErr := 0
    txInflight := false
    txDonePending := false
    txKind := 0
    txErr := 0
    tuneCh := 0
    txBuf := []
    txLen := 0
    rxBuf := []
    ev := []
    rc := []
    dp := Datapath.reset
    agenda := [] }

end Sys2Proof.Machine
end

