-- ==== Sys2Proof/Machine/Ops.lean ====
section
/-! DEFINITION. The named operations every meaning is built from: the buffers (20_memory.md R50 to R58), the state
register's codes, the two traces (`emit`, `radio`), and the writes of single state elements. WPANSCAN takes no exception
and returns from none (60_exceptions.md R240, R248, R249): an error is `State.emit` of its record, and the step goes on. -/

namespace Sys2Proof.Machine

/-! ## State codes (10_state.md R21) -/

def stInit : BitVec 3 := 0
def stIdle : BitVec 3 := 1
def stRacing : BitVec 3 := 2
def stRx : BitVec 3 := 3
def stHopPrep : BitVec 3 := 4
def stHopTxwait : BitVec 3 := 5
def stQuiet : BitVec 3 := 6
def stReserved : BitVec 3 := 7

/-! ## Radio response kinds (30_encoding.md R89) -/

def kindRxOk : BitVec 3 := 0
def kindRxCrc : BitVec 3 := 1
def kindRxErr : BitVec 3 := 2
def kindTxOk : BitVec 3 := 3
def kindTxErr : BitVec 3 := 4

/-! ## Buffers -/

/-- The byte at an offset, none where the offset holds no value. -/
def bufRead : Memory → Nat → Option Byte
  | [], _ => none
  | (k, v) :: m, a => if k = a then some v else bufRead m a

/-- Write one byte, keeping the offsets rising. -/
def bufWrite : Memory → Nat → Byte → Memory
  | [], a, v => [(a, v)]
  | (k, w) :: m, a, v =>
    if a < k then (a, v) :: (k, w) :: m
    else if a = k then (a, v) :: m
    else (k, w) :: bufWrite m a v

/-- Write bytes at consecutive offsets. -/
def bufWriteBytes : Memory → Nat → List Byte → Memory
  | m, _, [] => m
  | m, a, v :: vs => bufWriteBytes (bufWrite m a v) (a + 1) vs

/-- The `n` bytes from an offset, none where one of them holds no value. -/
def bufReadBytes (m : Memory) : Nat → Nat → Option (List Byte)
  | _, 0 => some []
  | a, n + 1 =>
    match bufRead m a with
    | none => none
    | some v => (bufReadBytes m (a + 1) n).map (v :: ·)

/-- The buffer primitive MemWrite: the `n` low bytes of a value, little-endian (20_memory.md R53). -/
def memWrite (m : Memory) (off n : Nat) (v : BitVec 64) : Memory := bufWriteBytes m off (leBytes n v.toNat)

/-- The offsets rise from `lo` on and stay inside the 125 bytes of a buffer (20_memory.md R50). -/
def memoryRises : Nat → Memory → Bool
  | _, [] => true
  | lo, (k, _) :: m => decide (lo ≤ k) && decide (k < Config.maxFrameLen) && memoryRises (k + 1) m

/-- The canonical form of a buffer. -/
def Memory.wf (m : Memory) : Bool := memoryRises 0 m

/-- `rx_buf[0..rx_len-1]`, what FDEC reads (40_frame_codec.md R120): a fault where the length passes the buffer or a
byte holds no value. -/
def State.rxFrame (s : State) : Except Fault (List Byte) :=
  if Config.maxFrameLen < s.rxLen.toNat then .error .offsetPastBuffer
  else
    match bufReadBytes s.rxBuf 0 s.rxLen.toNat with
    | none => .error .unspecifiedByte
    | some b => .ok b

/-- `tx_buf[0..tx_len-1]`, what the radio transmits (10_state.md R31), none where a byte holds no value. -/
def State.txFrame (s : State) : Option (List Byte) := bufReadBytes s.txBuf 0 s.txLen.toNat

/-! ## The traces -/

/-- `emit(rec)`: append an event record (45_interfaces.md R223). -/
def State.emit (s : State) (e : Evt) : State := { s with ev := s.ev ++ [e] }

/-- `emit` of at most one record (44_scan_loop.md R199). -/
def State.emitOpt (s : State) (e : Option Evt) : State := { s with ev := s.ev ++ e.toList }

/-- `radio(cmd)`: append a radio command (00_scope.md R10, 10_state.md R39). -/
def State.radio (s : State) (c : Rcmd) : State := { s with rc := s.rc ++ [c] }

/-- The event code's three bits (30_encoding.md R91). -/
def EvtCode.bits : EvtCode → BitVec 3
  | .beaconObserved => 0
  | .decodeError => 1
  | .linkQualityFault => 2
  | .receiveFault => 3
  | .requestSent => 4
  | .transmitFault => 5

/-- The record's 128-bit header word (30_encoding.md R90). -/
def Evt.header (e : Evt) : BitVec 128 :=
  evtWord e.code.bits e.chan e.seq e.v16 e.smode e.coord e.join e.k8 (BitVec.ofNat 7 e.raw.length) e.saddr

/-- The command's 32-bit word (30_encoding.md R86). -/
def Rcmd.word : Rcmd → BitVec 32
  | .tune chan => rcmdWord 0 chan 0
  | .rxStart => rcmdWord 1 0 0
  | .rxAbort => rcmdWord 2 0 0
  | .txStart len => rcmdWord 3 0 len

/-- The channel the radio is on after a command trace: that of its last TUNE (45_interfaces.md R211, R220). -/
def radioChannel : List Rcmd → Option (BitVec 5)
  | [] => none
  | .tune c :: cs => (radioChannel cs).or (some c)
  | _ :: cs => radioChannel cs

/-! ## Writes of single state elements -/

/-- `st <- S`. -/
def State.goto (s : State) (st : BitVec 3) : State := { s with st := st }

def State.setTick (s : State) (b : Bool) : State := { s with tickPending := b }

def State.setRxArmed (s : State) (b : Bool) : State := { s with rxArmed := b }

def State.setRxDone (s : State) (b : Bool) : State := { s with rxDonePending := b }

def State.setTxInflight (s : State) (b : Bool) : State := { s with txInflight := b }

def State.setTxDone (s : State) (b : Bool) : State := { s with txDonePending := b }

def State.setChIdx (s : State) (i : BitVec 4) : State := { s with chIdx := i }

def State.setSeq (s : State) (q : BitVec 8) : State := { s with seq := q }

def State.setTuneCh (s : State) (c : BitVec 5) : State := { s with tuneCh := c }

/-- ENCODE's output: the frame's bytes in `tx_buf` from offset 0 (40_frame_codec.md R115). -/
def State.putTxFrame (s : State) (bs : List Byte) : State := { s with txBuf := bufWriteBytes s.txBuf 0 bs }

def State.setTxLen (s : State) (n : BitVec 7) : State := { s with txLen := n }

/-- The model's own datapath values. -/
def State.setDp (s : State) (d : Datapath) : State := { s with dp := d }

/-- The model's own agenda. -/
def State.setAgenda (s : State) (a : List Item) : State := { s with agenda := a }

end Sys2Proof.Machine
end

