-- ==== Sys2Proof/Machine/Operands.lean ====
section
/-! DEFINITION. The operand forms of the frame format: field reads (20_memory.md R53), the address variants
(40_frame_codec.md R111), which address fields are present and how long they are (30_encoding.md R73, R76, R77), and the
assembly of an address from its bytes (30_encoding.md R85). -/

namespace Sys2Proof.Machine

/-- The buffer primitive MemRead: `n` bytes from an offset of a byte array, little-endian (20_memory.md R53). -/
def memRead (b : List Byte) (off n : Nat) : BitVec 64 := BitVec.ofNat 64 (leNat ((b.drop off).take n))

/-- `need(k)` at cursor `p` (40_frame_codec.md R128). -/
def need (b : List Byte) (p k : Nat) : Except DecErr Unit :=
  if b.length < p + k then .error .truncated else .ok ()

/-! ## Address variants (40_frame_codec.md R111) -/

/-- `SHORT(pan, a16)`: the address zero-extended. -/
def Addr.short (pan a16 : BitVec 16) : Addr := { mode := 2, pan := pan, addr := a16.setWidth 64 }

/-- `EXT(pan, a64)`. -/
def Addr.ext (pan : BitVec 16) (a64 : BitVec 64) : Addr := { mode := 3, pan := pan, addr := a64 }

/-- `is_bcast(a)` (40_frame_codec.md R111, R132). -/
def Addr.isBcast (a : Addr) : Bool := a.mode == 2 && a.pan == 0xFFFF && a.addr == 0xFFFF

/-- The field values a slot's variant requires (40_frame_codec.md R111, R114 (4)). -/
def Addr.wf (a : Addr) : Bool :=
  match a.mode.toNat with
  | 0 => a.pan == 0 && a.addr == 0
  | 2 => decide (a.addr.toNat < 65536)
  | 3 => true
  | _ => false

/-! ## Presence and length of address fields -/

/-- `alen(m)`, the address field's length (30_encoding.md R73). -/
def alen (m : BitVec 2) : Nat :=
  match m.toNat with
  | 2 => 2
  | 3 => 8
  | _ => 0

/-- Whether the source PAN identifier is left out of the frame (30_encoding.md R76). -/
def srcPanElided (pidc : Bool) (dstMode : BitVec 2) : Bool := pidc && dstMode != 0

/-- `hdr_len(fcf)` (30_encoding.md R77). -/
def hdrLen (f : Fcf) : Nat :=
  3 + (if f.dstMode ≠ 0 then 2 + alen f.dstMode else 0)
    + (if f.srcMode ≠ 0 then (if srcPanElided f.pidc f.dstMode then 0 else 2) + alen f.srcMode else 0)

/-! ## Address operand assembly (30_encoding.md R85, 40_frame_codec.md R122) -/

/-- The destination's fields at cursor `p`: the slot and the cursor after it. -/
def readDst (b : List Byte) (f : Fcf) (p : Nat) : Except DecErr (Addr × Nat) :=
  if f.dstMode = 0 then .ok (Addr.none, p)
  else do
    need b p 2
    need b (p + 2) (alen f.dstMode)
    .ok ({ mode := f.dstMode
           pan := (memRead b p 2).setWidth 16
           addr := memRead b (p + 2) (alen f.dstMode) }, p + 2 + alen f.dstMode)

/-- The source's fields at cursor `p`: under compression its PAN identifier is the destination's, and is not read. -/
def readSrc (b : List Byte) (f : Fcf) (dst : Addr) (p : Nat) : Except DecErr (Addr × Nat) :=
  if f.srcMode = 0 then .ok (Addr.none, p)
  else if srcPanElided f.pidc f.dstMode then do
    need b p (alen f.srcMode)
    .ok ({ mode := f.srcMode, pan := dst.pan, addr := memRead b p (alen f.srcMode) }, p + alen f.srcMode)
  else do
    need b p 2
    need b (p + 2) (alen f.srcMode)
    .ok ({ mode := f.srcMode
           pan := (memRead b p 2).setWidth 16
           addr := memRead b (p + 2) (alen f.srcMode) }, p + 2 + alen f.srcMode)

end Sys2Proof.Machine
end

