-- ==== Sys2Proof/Machine/FrameCodec.lean ====
section
/-! DEFINITION. FENC and FDEC as functions (40_frame_codec.md): WF, ENCODE and DECODE, and the stages DECODE is made
of, which the decode classes of Machine/FrameClasses.lean share. The meanings of ENCODE and DECODE stand at the end. -/

namespace Sys2Proof.Machine

/-! ## ENCODE -/

/-- The frame control field of a record, bits 9:7 zero (40_frame_codec.md R115). -/
def Frame.fcf (f : Frame) : Fcf :=
  { ftype := f.ftype, sec := f.sec, pend := f.pend, ackreq := f.ackreq, pidc := f.pidc, resv := 0
    dstMode := f.dst.mode, fver := f.fver, srcMode := f.src.mode }

/-- The destination fields of ENCODE (40_frame_codec.md R115). -/
def encodeDst (f : Frame) : List Byte :=
  if f.dst.mode = 0 then []
  else leBytes 2 f.dst.pan.toNat ++ leBytes (alen f.dst.mode) f.dst.addr.toNat

/-- The source fields of ENCODE; the PAN identifier is left out as 30_encoding.md R76 says (40_frame_codec.md R115). -/
def encodeSrc (f : Frame) : List Byte :=
  if f.src.mode = 0 then []
  else (if srcPanElided f.pidc f.dst.mode then [] else leBytes 2 f.src.pan.toNat)
    ++ leBytes (alen f.src.mode) f.src.addr.toNat

/-- ENCODE_CONTENT (40_frame_codec.md R116 to R118); a beacon is written with empty GTS and pending lists. -/
def encodeContent : Content → List Byte
  | .command cid => [cid]
  | .beacon sf _ _ _ => leBytes 2 sf.toNat ++ [0, 0]
  | .data => []
  | .other => []

/-- The bytes ENCODE writes to `tx_buf`, from offset 0, each field right after the one before it (40_frame_codec.md
R115). -/
def encodeFrame (f : Frame) : List Byte :=
  leBytes 2 f.fcf.toWord.toNat ++ leBytes 1 f.seq.toNat ++ encodeDst f ++ encodeSrc f ++ encodeContent f.content
    ++ f.pl

/-- The content variant agrees with the frame type (40_frame_codec.md R112). -/
def contentAgrees (ftype : BitVec 3) : Content → Bool
  | .beacon _ _ _ _ => ftype == 0
  | .data => ftype == 1
  | .other => ftype == 2
  | .command _ => ftype == 3

/-- ENCODE writes no GTS descriptor and no pending address (40_frame_codec.md R114 (7)). -/
def contentPlain : Content → Bool
  | .beacon _ g ps pe => g == 0 && ps == 0 && pe == 0
  | _ => true

/-- `WF(f)`, its eight conditions in order (40_frame_codec.md R114). -/
def Frame.wf (f : Frame) : Bool :=
  contentAgrees f.ftype f.content
    && !f.sec
    && decide (f.fver.toNat ≤ 1)
    && (f.dst.wf && f.src.wf)
    && !(f.pidc && f.src.mode != 0 && f.dst.mode == 0)
    && (!(f.pidc && f.src.mode != 0 && f.dst.mode != 0) || f.src.pan == f.dst.pan)
    && contentPlain f.content
    && decide ((encodeFrame f).length ≤ Config.maxFrameLen)

/-! ## DECODE -/

/-- The code of a decode error (30_encoding.md R92). -/
def DecErr.code : DecErr → BitVec 8
  | .truncated => 1
  | .frameType => 2
  | .security => 3
  | .addrMode => 4
  | .version => 5
  | .panidComp => 6

/-- The five checks of the frame control field, in their order (40_frame_codec.md R121). -/
def fcfCheck (f : Fcf) : Except DecErr Unit :=
  if 4 ≤ f.ftype.toNat then .error .frameType
  else if f.sec = true then .error .security
  else if f.dstMode = 1 ∨ f.srcMode = 1 then .error .addrMode
  else if 2 ≤ f.fver.toNat then .error .version
  else if f.pidc = true ∧ f.srcMode ≠ 0 ∧ f.dstMode = 0 then .error .panidComp
  else .ok ()

/-- The sequence number, one byte at offset 2 (30_encoding.md R75). -/
def readSeq (b : List Byte) : Except DecErr (BitVec 8) := do
  need b 2 1
  .ok ((memRead b 2 1).setWidth 8)

/-- The beacon content stage (40_frame_codec.md R123): the content and the cursor after it. -/
def readBeacon (b : List Byte) (p : Nat) : Except DecErr (Content × Nat) := do
  need b p 2
  let sf : BitVec 16 := (memRead b p 2).setWidth 16
  need b (p + 2) 1
  let g := memRead b (p + 2) 1
  let gc : BitVec 3 := g.extractLsb' 0 3
  let p1 := p + 3
  let gtsLen := 3 * gc.toNat
  let p2 ← if gc ≠ 0 then do
      need b p1 1
      need b (p1 + 1) gtsLen
      .ok (p1 + 1 + gtsLen)
    else .ok p1
  need b p2 1
  let pa := memRead b p2 1
  let ns : BitVec 3 := pa.extractLsb' 0 3
  let ne : BitVec 3 := pa.extractLsb' 4 3
  let p3 := p2 + 1
  let pendLen := 2 * ns.toNat + 8 * ne.toNat
  need b p3 pendLen
  .ok (.beacon sf gc ns ne, p3 + pendLen)

/-- The command content stage (40_frame_codec.md R124). -/
def readCommand (b : List Byte) (p : Nat) : Except DecErr (Content × Nat) := do
  need b p 1
  .ok (.command ((memRead b p 1).setWidth 8), p + 1)

/-- The content stage of a frame type that passed the checks (40_frame_codec.md R120, R123 to R126). -/
def readContent (b : List Byte) (ftype : BitVec 3) (p : Nat) : Except DecErr (Content × Nat) :=
  match ftype.toNat with
  | 0 => readBeacon b p
  | 1 => .ok (.data, p)
  | 2 => .ok (.other, p)
  | _ => readCommand b p

/-- The stages before the destination: the checks and the sequence number. -/
def decodeSeq (b : List Byte) (f : Fcf) : Except DecErr (BitVec 8) := do
  fcfCheck f
  readSeq b

/-- The stages up to the destination address. -/
def decodeDst (b : List Byte) (f : Fcf) : Except DecErr (BitVec 8 × Addr × Nat) := do
  let q ← decodeSeq b f
  let d ← readDst b f 3
  .ok (q, d.1, d.2)

/-- The stages up to the source address. -/
def decodeSrc (b : List Byte) (f : Fcf) : Except DecErr (BitVec 8 × Addr × Addr × Nat) := do
  let d ← decodeDst b f
  let r ← readSrc b f d.2.1 d.2.2
  .ok (d.1, d.2.1, r.1, r.2)

/-- All stages after the frame control field: the record. The bytes after the content are the payload (40_frame_codec.md
R129). -/
def decodeRest (b : List Byte) (f : Fcf) : Except DecErr Frame := do
  let a ← decodeSrc b f
  let c ← readContent b f.ftype a.2.2.2
  .ok { ftype := f.ftype, sec := false, pend := f.pend, ackreq := f.ackreq, pidc := f.pidc, fver := f.fver
        seq := a.1, dst := a.2.1, src := a.2.2.1, content := c.1, pl := b.drop c.2 }

/-- The frame control field at offset 0 (40_frame_codec.md R120). -/
def readFcf (b : List Byte) : Except DecErr Fcf := do
  need b 0 2
  .ok (Fcf.ofWord ((memRead b 0 2).setWidth 16))

/-- DECODE of `rx_buf[0..n-1]` (40_frame_codec.md R120), a function of those bytes alone (R130). -/
def decodeFrame (b : List Byte) : Except DecErr Frame := do
  let f ← readFcf b
  decodeRest b f

/-! ## The meanings -/

/-- ENCODE (IOP 0x3) of the datapath's record: its bytes into `tx_buf`, their number into the datapath; an ill-formed
record is refused (40_frame_codec.md R115, R119). Run by itself it does so whatever `st` and the latches are, also while a
transmit is outstanding (20_memory.md R61 has the FSM write `tx_buf` in S_HOP_PREP only), and `tx_len` stays (DESIGN CHOICE,
assumption log 24). -/
def execEncode (s : State) : Host.Outcome State Fault Refusal :=
  if s.dp.frame.wf then
    .next ((s.putTxFrame (encodeFrame s.dp.frame)).setDp
      { s.dp with len := BitVec.ofNat 7 (encodeFrame s.dp.frame).length })
  else .refused .encodeIllFormed

/-- What a decode leaves in the datapath: the record, or the error. -/
def Datapath.decoded (d : Datapath) : Except DecErr Frame → Datapath
  | .ok f => { d with frame := f, derr := none }
  | .error e => { d with derr := some e }

/-- DECODE (IOP 0x4) of `rx_buf[0..rx_len-1]` into the datapath; it writes no state of the spec's (40_frame_codec.md
R120). Run by itself it does so whatever `st` and the latches are, also while a receive is outstanding (20_memory.md R60 has
the FSM read `rx_buf` in S_RX only; DESIGN CHOICE, assumption log 24). -/
def execDecode (s : State) : Host.Outcome State Fault Refusal :=
  match s.rxFrame with
  | .error e => .fault e
  | .ok b => .next (s.setDp (s.dp.decoded (decodeFrame b)))

end Sys2Proof.Machine
end

