-- ==== Sys2Proof/Machine/FrameClasses.lean ====
section
/-! DEFINITION. The decode classes of the frame format: the rows of the four FCF selectors and of the command
identifier. A row under an FCF selector carries the whole frame control field; by itself it runs DECODE's stages on
`rx_buf[0..rx_len-1]` with that frame control field, up to and including its own stage, and puts the stage's result into
the datapath (assumption log 10). -/

namespace Sys2Proof.Machine

/-- What a stage leaves in the datapath: an update of the record and no error, or the error. -/
def Datapath.staged {α : Type} (d : Datapath) (r : Except DecErr α) (upd : Frame → α → Frame) : Datapath :=
  match r with
  | .ok a => { d with frame := upd d.frame a, derr := none }
  | .error e => { d with derr := some e }

/-- Run a stage of DECODE on the receive buffer and put its result into the datapath. -/
def runStage {α : Type} (s : State) (stage : List Byte → Except DecErr α) (upd : Frame → α → Frame) :
    Host.Outcome State Fault Refusal :=
  match s.rxFrame with
  | .error e => .fault e
  | .ok b => .next (s.setDp (s.dp.staged (stage b) upd))

/-- The header bits a frame control field gives a record (40_frame_codec.md R120). -/
def Frame.withFcf (r : Frame) (f : Fcf) : Frame :=
  { r with ftype := f.ftype, sec := false, pend := f.pend, ackreq := f.ackreq, pidc := f.pidc, fver := f.fver }

/-- A row whose class ends at the frame control field: the five checks, then the header bits. -/
def runHeader (f : Fcf) (s : State) : Host.Outcome State Fault Refusal :=
  runStage s (fun _ => fcfCheck f) (fun r _ => r.withFcf f)

/-- A destination row: the destination's slot (40_frame_codec.md R122). -/
def runDst (f : Fcf) (s : State) : Host.Outcome State Fault Refusal :=
  runStage s (fun b => decodeDst b f) (fun r a => { r.withFcf f with seq := a.1, dst := a.2.1 })

/-- A source row: the source's slot, its PAN identifier the destination's under compression (40_frame_codec.md R122). -/
def runSrc (f : Fcf) (s : State) : Host.Outcome State Fault Refusal :=
  runStage s (fun b => decodeSrc b f)
    (fun r a => { r.withFcf f with seq := a.1, dst := a.2.1, src := a.2.2.1 })

/-- A frame type row: the content stage and the payload, so the whole record (40_frame_codec.md R123 to R126, R129). -/
def runContent (f : Fcf) (s : State) : Host.Outcome State Fault Refusal :=
  runStage s (fun b => decodeRest b f) (fun _ r => r)

/-! ## Frame types -/

/-- FRAME_BEACON: the beacon content stage (40_frame_codec.md R123). -/
def execFrameBeacon (f : Fcf) (s : State) : Host.Outcome State Fault Refusal := runContent f s

/-- FRAME_DATA: no content field, the rest is payload (40_frame_codec.md R125). -/
def execFrameData (f : Fcf) (s : State) : Host.Outcome State Fault Refusal := runContent f s

/-- FRAME_ACK: no content field, the rest is payload (40_frame_codec.md R126). -/
def execFrameAck (f : Fcf) (s : State) : Host.Outcome State Fault Refusal := runContent f s

/-- FRAME_COMMAND: the command identifier, then payload (40_frame_codec.md R124). -/
def execFrameCommand (f : Fcf) (s : State) : Host.Outcome State Fault Refusal := runContent f s

/-- FRAME_TYPE_RESERVED: DECODE returns DE_FRAME_TYPE (40_frame_codec.md R121). -/
def execFrameTypeReserved (f : Fcf) (s : State) : Host.Outcome State Fault Refusal := runHeader f s

/-! ## Destination addressing modes -/

/-- DST_NONE: no PAN identifier, no address (30_encoding.md R73). -/
def execDstNone (f : Fcf) (s : State) : Host.Outcome State Fault Refusal := runDst f s

/-- DST_MODE_RESERVED: DECODE returns DE_ADDR_MODE, unless an earlier check fails (40_frame_codec.md R121). -/
def execDstModeReserved (f : Fcf) (s : State) : Host.Outcome State Fault Refusal := runHeader f s

/-- DST_SHORT: two bytes of PAN identifier, two of address (30_encoding.md R73). -/
def execDstShort (f : Fcf) (s : State) : Host.Outcome State Fault Refusal := runDst f s

/-- DST_EXT: two bytes of PAN identifier, eight of address (30_encoding.md R73). -/
def execDstExt (f : Fcf) (s : State) : Host.Outcome State Fault Refusal := runDst f s

/-! ## Source addressing modes -/

/-- SRC_NONE: no PAN identifier, no address (30_encoding.md R73). -/
def execSrcNone (f : Fcf) (s : State) : Host.Outcome State Fault Refusal := runSrc f s

/-- SRC_MODE_RESERVED: DECODE returns DE_ADDR_MODE, unless an earlier check fails (40_frame_codec.md R121). -/
def execSrcModeReserved (f : Fcf) (s : State) : Host.Outcome State Fault Refusal := runHeader f s

/-- SRC_SHORT: the PAN identifier unless compressed, two bytes of address (30_encoding.md R73, R76). -/
def execSrcShort (f : Fcf) (s : State) : Host.Outcome State Fault Refusal := runSrc f s

/-- SRC_EXT: the PAN identifier unless compressed, eight bytes of address (30_encoding.md R73, R76). -/
def execSrcExt (f : Fcf) (s : State) : Host.Outcome State Fault Refusal := runSrc f s

/-! ## Frame versions -/

/-- VERSION_2003: accepted (30_encoding.md R74). -/
def execVersion2003 (f : Fcf) (s : State) : Host.Outcome State Fault Refusal := runHeader f s

/-- VERSION_2006: accepted, decoded like VERSION_2003 (30_encoding.md R74). -/
def execVersion2006 (f : Fcf) (s : State) : Host.Outcome State Fault Refusal := runHeader f s

/-- VERSION_RESERVED: DECODE returns DE_VERSION, unless an earlier check fails (40_frame_codec.md R121). -/
def execVersionReserved (f : Fcf) (s : State) : Host.Outcome State Fault Refusal := runHeader f s

/-! ## Command identifiers -/

/-- The content a command identifier gives the record (30_encoding.md R83, 40_frame_codec.md R124). -/
def State.putCommand (s : State) (cid : BitVec 8) : State :=
  s.setDp { s.dp with frame := { s.dp.frame with ftype := 3, content := .command cid }, derr := none }

/-- CMD_BEACON_REQUEST: the discovery request's identifier 0x07 (30_encoding.md R83). -/
def execCmdBeaconRequest (s : State) : Host.Outcome State Fault Refusal := .next (s.putCommand 7)

/-- CMD_OTHER: a command of another kind, no event (30_encoding.md R83); the identifier is not checked (assumption
log 23). -/
def execCmdOther (cid : BitVec 8) (s : State) : Host.Outcome State Fault Refusal := .next (s.putCommand cid)

end Sys2Proof.Machine
end

