-- ==== Sys2Proof/Machine/HopTimer.lean ====
section
/-! DEFINITION. HOPTMR's step (45_interfaces.md R221) and the operation codes that are never used (30_encoding.md R93). -/

namespace Sys2Proof.Machine

/-- TICK (IOP 0x6): the hop-tick latch is set; ticks coalesce (45_interfaces.md R221, 10_state.md R25). -/
def execTick (s : State) : Host.Outcome State Fault Refusal := .next (s.setTick true)

/-- IOP_RESERVED_7: never used (30_encoding.md R93, R94). -/
def execIopReserved7 (_s : State) : Host.Outcome State Fault Refusal := .refused .reservedOperation

/-- IOP_RESERVED_8_F: never used (30_encoding.md R93, R94). -/
def execIopReserved8F (_iop : BitVec 4) (_s : State) : Host.Outcome State Fault Refusal := .refused .reservedOperation

end Sys2Proof.Machine
end

