-- ==== Sys2Proof/Machine/Flags.lean ====
section
/-! DEFINITION. WPANSCAN's flags are its five latches (10_state.md R36): which of them enable a step, and who wins the
race. -/

namespace Sys2Proof.Machine

/-- Whether the FSM has an enabled step (44_scan_loop.md R180): it waits in S_RACING with no latch set and in
S_HOP_TXWAIT with no response. State code 7 counts as enabled, so that the model fault it raises is seen (10_state.md
R22). -/
def State.fsmEnabled (s : State) : Bool :=
  if s.st = stRacing then s.rxDonePending || s.tickPending
  else if s.st = stHopTxwait then s.txDonePending
  else true

/-- Whether a receive response is enabled (45_interfaces.md R215 to R217). -/
def State.rxResponseEnabled (s : State) : Bool := s.rxArmed && !s.rxDonePending

/-- Whether a transmit response is enabled (45_interfaces.md R218, R219). -/
def State.txResponseEnabled (s : State) : Bool := s.txInflight && !s.txDonePending

/-- The race's outcomes. -/
inductive Winner where
  | rx
  | hop
deriving DecidableEq, Repr

/-- ARB's arbitration; none when neither latch is set (44_scan_loop.md R184). -/
def raceWinner (tie : ArbTie) (rxDone tick : Bool) : Option Winner :=
  match rxDone, tick with
  | false, false => none
  | true, false => some .rx
  | false, true => some .hop
  | true, true => match tie with
    | .rxFirst => some .rx
    | .hopFirst => some .hop

end Sys2Proof.Machine
end

