-- ==== Sys2Proof/Machine/RadioPort.lean ====
section
/-! DEFINITION. The radio's port (45_interfaces.md): the four commands, and the responses, which are the radio agent's
steps. -/

namespace Sys2Proof.Machine

/-! ## Commands

The FSM issues TUNE with a channel 11 to 26 and TX_START with at most 125 bytes, each when its rule says. Run by itself a
command joins `rc` with whatever operand it has, and whenever it is run: DESIGN CHOICE, assumption log 23. -/

/-- TUNE c: the command joins `rc`; `tune_ch` is the FSM's to write (45_interfaces.md R211). A channel outside 11 to 26 joins
it unchanged (DESIGN CHOICE, assumption log 23). -/
def execTune (chan : BitVec 5) (s : State) : Host.Outcome State Fault Refusal := .next (s.radio (.tune chan))

/-- RX_START (45_interfaces.md R212). -/
def execRxStart (s : State) : Host.Outcome State Fault Refusal := .next (s.radio .rxStart)

/-- RX_ABORT (45_interfaces.md R213). -/
def execRxAbort (s : State) : Host.Outcome State Fault Refusal := .next (s.radio .rxAbort)

/-- TX_START n (45_interfaces.md R214). A length over 125 joins `rc` unchanged (DESIGN CHOICE, assumption log 23). -/
def execTxStart (len : BitVec 7) (s : State) : Host.Outcome State Fault Refusal := .next (s.radio (.txStart len))

/-! ## Responses -/

/-- The state after a receive response that hands over no frame: the bytes of `rx_buf` have no value any more
(20_memory.md R68, 10_state.md R32); the fields it does not carry keep theirs (10_state.md R27). -/
def State.dropRxFrame (s : State) : State := { s with rxBuf := [] }

/-- The radio's write of a received frame: offsets 0 to n-1 hold its bytes, the others no value (45_interfaces.md R215,
20_memory.md R68). -/
def State.putRxFrame (s : State) (bytes : List Byte) : State :=
  { s with rxBuf := bufWriteBytes [] 0 bytes, rxLen := BitVec.ofNat 7 bytes.length }

def State.setRxKind (s : State) (k : BitVec 3) : State := { s with rxKind := k }

def State.setTxKind (s : State) (k : BitVec 3) : State := { s with txKind := k }

/-- RX_OK: a frame with a correct FCS (45_interfaces.md R215); one over 125 bytes does not happen (R230 (4)). -/
def execRxOk (bytes : List Byte) (s : State) : Host.Outcome State Fault Refusal :=
  if !s.rxResponseEnabled then .refused .rxResponseNotEnabled
  else if Config.maxFrameLen < bytes.length then .refused .frameTooLong
  else .next (((s.putRxFrame bytes).setRxKind kindRxOk).setRxDone true)

/-- RX_CRC: a frame whose CRC failed (45_interfaces.md R216). -/
def execRxCrc (crc : BitVec 16) (s : State) : Host.Outcome State Fault Refusal :=
  if !s.rxResponseEnabled then .refused .rxResponseNotEnabled
  else .next { (s.dropRxFrame.setRxKind kindRxCrc).setRxDone true with rxCrc := crc }

/-- RX_ERR: the receive failed otherwise (45_interfaces.md R217). -/
def execRxErr (err : BitVec 8) (s : State) : Host.Outcome State Fault Refusal :=
  if !s.rxResponseEnabled then .refused .rxResponseNotEnabled
  else .next { (s.dropRxFrame.setRxKind kindRxErr).setRxDone true with rxErr := err }

/-- TX_OK: the transmit completed (45_interfaces.md R218). -/
def execTxOk (s : State) : Host.Outcome State Fault Refusal :=
  if !s.txResponseEnabled then .refused .txResponseNotEnabled
  else .next ((s.setTxKind kindTxOk).setTxDone true)

/-- TX_ERR: the transmit failed (45_interfaces.md R219). -/
def execTxErr (err : BitVec 8) (s : State) : Host.Outcome State Fault Refusal :=
  if !s.txResponseEnabled then .refused .txResponseNotEnabled
  else .next { (s.setTxKind kindTxErr).setTxDone true with txErr := err }

/-- RSP_RESERVED: the radio never sends these kinds; the model has no such step (30_encoding.md R89, R94, 45_interfaces.md
R230 (3)). -/
def execRspReserved (_kind : BitVec 3) (_s : State) : Host.Outcome State Fault Refusal := .refused .reservedResponse

end Sys2Proof.Machine
end

