-- ==== Sys2Proof/Machine/Classifier.lean ====
section
/-! DEFINITION. BCLS (42_beacon_classifier.md): CLASSIFY. -/

namespace Sys2Proof.Machine

/-- `CLASSIFY(f)`: the observation of a beacon with a source, nothing otherwise (42_beacon_classifier.md R160). -/
def classifyFrame (f : Frame) : Option Observation :=
  match f.content with
  | .beacon sf _ _ _ =>
    if f.src.mode = 0 then none
    else some { pan := f.src.pan, smode := f.src.mode, saddr := f.src.addr
                coord := sf.getLsbD 14, join := sf.getLsbD 15 }
  | .data => none
  | .other => none
  | .command _ => none

/-- CLASSIFY (IOP 0x5) of the datapath's record: the tuple, in the datapath; no state of the spec's is written
(42_beacon_classifier.md R164). Run by itself it does so at any `st` (DESIGN CHOICE, assumption log 24). -/
def execClassify (s : State) : Host.Outcome State Fault Refusal :=
  .next (s.setDp { s.dp with obs := classifyFrame s.dp.frame })

end Sys2Proof.Machine
end

