-- ==== Sys2Proof/Machine/ChannelSequencer.lean ====
section
/-! DEFINITION. CHSEQ (43_channel_sequencer.md): CURRENT and ADVANCE. -/

namespace Sys2Proof.Machine

/-- `CURRENT()`: the table's entry at the channel index (43_channel_sequencer.md R171). -/
def currentChannel (i : BitVec 4) : BitVec 5 := Config.channels.getD i.toNat 0

/-- The index after ADVANCE: it wraps from 15 to 0 (43_channel_sequencer.md R172). -/
def nextIndex (i : BitVec 4) : BitVec 4 := if i = 15 then 0 else i + 1

/-- `CURRENT()` of a state. -/
def State.chan (s : State) : BitVec 5 := currentChannel s.chIdx

/-- CURRENT (IOP 0x0): the channel number, in the datapath; no state of the spec's is written. Run by itself it does so at
any `st` (DESIGN CHOICE, assumption log 24). -/
def execCurrent (s : State) : Host.Outcome State Fault Refusal := .next (s.setDp { s.dp with chan := s.chan })

/-- ADVANCE (IOP 0x1): the channel index moves on (43_channel_sequencer.md R172). The spec runs it inside S_HOP_PREP only
(R172, 10_state.md R23) and does not say what it does elsewhere; that it moves the index whatever `st` and the latches are,
with no retune, is the model's (DESIGN CHOICE, assumption log 24). -/
def execAdvance (s : State) : Host.Outcome State Fault Refusal := .next (s.setChIdx (nextIndex s.chIdx))

end Sys2Proof.Machine
end

