-- ==== Sys2Proof/Machine/Report.lean ====
section
/-! DEFINITION. RPT: the event records (30_encoding.md R90, R91) and the report port's transactions, `emit` of one record
each (45_interfaces.md R223). In every record `chan` is `CURRENT()` when it is emitted (44_scan_loop.md R201), so a
driven record's own channel field gives way to it (assumption log 12); its other fields are taken as they are, also
outside the ranges of 30_encoding.md R90 and R92 (DESIGN CHOICE, assumption log 23), and it is emitted at any `st`
(DESIGN CHOICE, log 24). -/

namespace Sys2Proof.Machine

/-! ## The records (44_scan_loop.md R187 to R195) -/

/-- `EVT(BEACON_OBSERVED, v16, smode, saddr, coord, join)`. -/
def evtBeacon (chan : BitVec 5) (o : Observation) : Evt :=
  { code := .beaconObserved, chan := chan, v16 := o.pan, smode := o.smode, saddr := o.saddr, coord := o.coord
    join := o.join }

/-- `EVT(DECODE_ERROR, k8, len)` and the raw bytes, by value (45_interfaces.md R224). -/
def evtDecodeError (chan : BitVec 5) (code : BitVec 8) (raw : List Byte) : Evt :=
  { code := .decodeError, chan := chan, k8 := code, raw := raw }

/-- `EVT(LINK_QUALITY_FAULT, v16)`. -/
def evtLinkQuality (chan : BitVec 5) (crc : BitVec 16) : Evt :=
  { code := .linkQualityFault, chan := chan, v16 := crc }

/-- `EVT(RECEIVE_FAULT, k8)`. -/
def evtReceiveFault (chan : BitVec 5) (kind : BitVec 8) : Evt :=
  { code := .receiveFault, chan := chan, k8 := kind }

/-- `EVT(REQUEST_SENT, seq)`. -/
def evtRequestSent (chan : BitVec 5) (seq : BitVec 8) : Evt :=
  { code := .requestSent, chan := chan, seq := seq }

/-- `EVT(TRANSMIT_FAULT, seq, k8)`. -/
def evtTransmitFault (chan : BitVec 5) (seq : BitVec 8) (kind : BitVec 8) : Evt :=
  { code := .transmitFault, chan := chan, seq := seq, k8 := kind }

/-! ## The port's transactions -/

/-- BEACON_OBSERVED (44_scan_loop.md R187). -/
def execBeaconObserved (_chan : BitVec 5) (pan : BitVec 16) (smode : BitVec 2) (saddr : BitVec 64) (coord join : Bool) (s : State) :
    Host.Outcome State Fault Refusal :=
  .next (s.emit (evtBeacon s.chan { pan := pan, smode := smode, saddr := saddr, coord := coord, join := join }))

/-- DECODE_ERROR (44_scan_loop.md R189). -/
def execDecodeError (_chan : BitVec 5) (code : BitVec 8) (raw : List Byte) (s : State) : Host.Outcome State Fault Refusal :=
  .next (s.emit (evtDecodeError s.chan code raw))

/-- LINK_QUALITY_FAULT (44_scan_loop.md R190). -/
def execLinkQualityFault (_chan : BitVec 5) (crc : BitVec 16) (s : State) : Host.Outcome State Fault Refusal :=
  .next (s.emit (evtLinkQuality s.chan crc))

/-- RECEIVE_FAULT (44_scan_loop.md R191). -/
def execReceiveFault (_chan : BitVec 5) (kind : BitVec 8) (s : State) : Host.Outcome State Fault Refusal :=
  .next (s.emit (evtReceiveFault s.chan kind))

/-- REQUEST_SENT (44_scan_loop.md R194). -/
def execRequestSent (_chan : BitVec 5) (seq : BitVec 8) (s : State) : Host.Outcome State Fault Refusal :=
  .next (s.emit (evtRequestSent s.chan seq))

/-- TRANSMIT_FAULT (44_scan_loop.md R195). -/
def execTransmitFault (_chan : BitVec 5) (seq : BitVec 8) (kind : BitVec 8) (s : State) : Host.Outcome State Fault Refusal :=
  .next (s.emit (evtTransmitFault s.chan seq kind))

/-- EVENT_RESERVED: these codes are never emitted (30_encoding.md R91, R94). -/
def execEventReserved (_code : BitVec 3) (_s : State) : Host.Outcome State Fault Refusal := .refused .reservedEvent

end Sys2Proof.Machine
end

