-- ==== Sys2Proof/Machine/RequestBuilder.lean ====
section
/-! DEFINITION. RBLD (41_request_builder.md): BUILD_REQUEST. -/

namespace Sys2Proof.Machine

/-- `BUILD_REQUEST(s, v)`: the discovery request's record (41_request_builder.md R150). -/
def buildRequest (seq : BitVec 8) (ver : BitVec 2) : Frame :=
  { ftype := 3, sec := false, pend := false, ackreq := false, pidc := false, fver := ver, seq := seq
    dst := Addr.short 0xFFFF 0xFFFF, src := Addr.none, content := .command 7, pl := [] }

/-- BUILD_REQUEST (IOP 0x2) of the current `seq`: the record, in the datapath; no state of the spec's is written
(41_request_builder.md R154). Run by itself it does so at any `st` (DESIGN CHOICE, assumption log 24). -/
def execBuildRequest (s : State) : Host.Outcome State Fault Refusal :=
  .next (s.setDp { s.dp with frame := buildRequest s.seq Config.reqFrameVersion })

end Sys2Proof.Machine
end

