-- ==== Sys2Proof/Machine/ScanLoop.lean ====
section
/-! DEFINITION. The scan loop controller FSM and its arbiter ARB (44_scan_loop.md): one meaning per state. -/

namespace Sys2Proof.Machine

/-- S_INIT: the first tune after reset (44_scan_loop.md R181). -/
def execSInit (s : State) : Host.Outcome State Fault Refusal :=
  .next (((s.setTuneCh s.chan).radio (.tune s.chan)).goto stIdle)

/-- S_IDLE: arm a receive (44_scan_loop.md R182). -/
def execSIdle (s : State) : Host.Outcome State Fault Refusal :=
  .next (((s.radio .rxStart).setRxArmed true).goto stRacing)

/-- The receive wins: a losing tick stays latched (44_scan_loop.md R185). -/
def State.rxWins (s : State) : State := (s.setRxArmed false).goto stRx

/-- The hop wins: the receive is cancelled, a completed one discarded, the tick consumed (44_scan_loop.md R186). -/
def State.hopWins (s : State) : State :=
  ((((s.radio .rxAbort).setRxArmed false).setRxDone false).setTick false).goto stHopPrep

/-- S_RACING: the race (44_scan_loop.md R183, R184); with neither latch set the FSM waits and all state is held
(60_exceptions.md R256). -/
def execSRacing (s : State) : Host.Outcome State Fault Refusal :=
  match raceWinner Config.arbTie s.rxDonePending s.tickPending with
  | none => .next s
  | some .rx => .next s.rxWins
  | some .hop => .next s.hopWins

/-- The record S_RX emits for a received frame: an observation, nothing, or a decode error (44_scan_loop.md R187 to
R189). -/
def frameReport (chan : BitVec 5) (b : List Byte) : Option Evt :=
  match decodeFrame b with
  | .ok f => (classifyFrame f).map (evtBeacon chan)
  | .error e => some (evtDecodeError chan e.code b)

/-- The record S_RX emits for a receive result (44_scan_loop.md R187, R190, R191). An `rx_kind` that is no receive
result, which no rule writes, gives none (assumption log 7). -/
def State.rxReport (s : State) : Except Fault (Option Evt) :=
  if s.rxKind = kindRxOk then
    match s.rxFrame with
    | .error e => .error e
    | .ok b => .ok (frameReport s.chan b)
  else if s.rxKind = kindRxCrc then .ok (some (evtLinkQuality s.chan s.rxCrc))
  else if s.rxKind = kindRxErr then .ok (some (evtReceiveFault s.chan s.rxErr))
  else .ok none

/-- S_RX: report the receive result and go on (44_scan_loop.md R187 to R192). -/
def execSRx (s : State) : Host.Outcome State Fault Refusal :=
  match s.rxReport with
  | .error e => .fault e
  | .ok e => .next (((s.emitOpt e).setRxDone false).goto stQuiet)

/-- S_HOP_PREP: advance, build, encode, retune, transmit (44_scan_loop.md R193). -/
def execSHopPrep (s : State) : Host.Outcome State Fault Refusal :=
  let c := currentChannel (nextIndex s.chIdx)
  let f := buildRequest s.seq Config.reqFrameVersion
  let bytes := encodeFrame f
  let len := BitVec.ofNat 7 bytes.length
  if f.wf then
    .next (((((((s.setChIdx (nextIndex s.chIdx)).putTxFrame bytes).setTxLen len).setTuneCh c).radio (.tune c)).radio
      (.txStart len)).setTxInflight true |>.goto stHopTxwait)
  else .refused .encodeIllFormed

/-- The record S_HOP_TXWAIT emits (44_scan_loop.md R194, R195). -/
def State.txReport (s : State) : Evt :=
  if s.txKind = kindTxOk then evtRequestSent s.chan s.seq else evtTransmitFault s.chan s.seq s.txErr

/-- S_HOP_TXWAIT: report the transmit result; the sequence number goes on whatever it was (44_scan_loop.md R194 to
R196). With no response the FSM waits and all state is held (60_exceptions.md R256). -/
def execSHopTxwait (s : State) : Host.Outcome State Fault Refusal :=
  if s.txDonePending then
    .next (((((s.emit s.txReport).setSeq (s.seq + 1)).setTxInflight false).setTxDone false).goto stQuiet)
  else .next s

/-- S_QUIET: the quiescent interval is over (44_scan_loop.md R197). -/
def execSQuiet (s : State) : Host.Outcome State Fault Refusal := .next (s.goto stIdle)

/-- ST_RESERVED: `raise ModelFault(ReservedState)` (10_state.md R22). -/
def execStReserved (_s : State) : Host.Outcome State Fault Refusal := .fault .reservedState

end Sys2Proof.Machine
end

