-- ==== Sys2Proof/Machine/Dispatch.lean ====
section
/-! DEFINITION. exec: one arm per row of spec/opcode_table.json, each one call of its meaning. -/

namespace Sys2Proof.Machine

def exec (i : Instr) (s : State) : Host.Outcome State Fault Refusal :=
  match i with
  -- format fcf_frame_type
  | .frameBeacon f => Sys2Proof.Machine.execFrameBeacon f s
  | .frameData f => Sys2Proof.Machine.execFrameData f s
  | .frameAck f => Sys2Proof.Machine.execFrameAck f s
  | .frameCommand f => Sys2Proof.Machine.execFrameCommand f s
  | .frameTypeReserved f => Sys2Proof.Machine.execFrameTypeReserved f s
  -- format fcf_dst_addr_mode
  | .dstNone f => Sys2Proof.Machine.execDstNone f s
  | .dstModeReserved f => Sys2Proof.Machine.execDstModeReserved f s
  | .dstShort f => Sys2Proof.Machine.execDstShort f s
  | .dstExt f => Sys2Proof.Machine.execDstExt f s
  -- format fcf_src_addr_mode
  | .srcNone f => Sys2Proof.Machine.execSrcNone f s
  | .srcModeReserved f => Sys2Proof.Machine.execSrcModeReserved f s
  | .srcShort f => Sys2Proof.Machine.execSrcShort f s
  | .srcExt f => Sys2Proof.Machine.execSrcExt f s
  -- format fcf_frame_version
  | .version2003 f => Sys2Proof.Machine.execVersion2003 f s
  | .version2006 f => Sys2Proof.Machine.execVersion2006 f s
  | .versionReserved f => Sys2Proof.Machine.execVersionReserved f s
  -- format mac_command_id
  | .cmdBeaconRequest => Sys2Proof.Machine.execCmdBeaconRequest s
  | .cmdOther cid => Sys2Proof.Machine.execCmdOther cid s
  -- format radio_cmd
  | .tune chan => Sys2Proof.Machine.execTune chan s
  | .rxStart => Sys2Proof.Machine.execRxStart s
  | .rxAbort => Sys2Proof.Machine.execRxAbort s
  | .txStart len => Sys2Proof.Machine.execTxStart len s
  -- format radio_rsp
  | .rxOk bytes => Sys2Proof.Machine.execRxOk bytes s
  | .rxCrc crc => Sys2Proof.Machine.execRxCrc crc s
  | .rxErr err => Sys2Proof.Machine.execRxErr err s
  | .txOk => Sys2Proof.Machine.execTxOk s
  | .txErr err => Sys2Proof.Machine.execTxErr err s
  | .rspReserved kind => Sys2Proof.Machine.execRspReserved kind s
  -- format event
  | .beaconObserved chan pan smode saddr coord join => Sys2Proof.Machine.execBeaconObserved chan pan smode saddr coord join s
  | .decodeError chan code raw => Sys2Proof.Machine.execDecodeError chan code raw s
  | .linkQualityFault chan crc => Sys2Proof.Machine.execLinkQualityFault chan crc s
  | .receiveFault chan kind => Sys2Proof.Machine.execReceiveFault chan kind s
  | .requestSent chan seq => Sys2Proof.Machine.execRequestSent chan seq s
  | .transmitFault chan seq kind => Sys2Proof.Machine.execTransmitFault chan seq kind s
  | .eventReserved code => Sys2Proof.Machine.execEventReserved code s
  -- format fsm_state
  | .sInit => Sys2Proof.Machine.execSInit s
  | .sIdle => Sys2Proof.Machine.execSIdle s
  | .sRacing => Sys2Proof.Machine.execSRacing s
  | .sRx => Sys2Proof.Machine.execSRx s
  | .sHopPrep => Sys2Proof.Machine.execSHopPrep s
  | .sHopTxwait => Sys2Proof.Machine.execSHopTxwait s
  | .sQuiet => Sys2Proof.Machine.execSQuiet s
  | .stReserved => Sys2Proof.Machine.execStReserved s
  -- format internal_op
  | .current => Sys2Proof.Machine.execCurrent s
  | .advance => Sys2Proof.Machine.execAdvance s
  | .buildRequest => Sys2Proof.Machine.execBuildRequest s
  | .encode => Sys2Proof.Machine.execEncode s
  | .decode => Sys2Proof.Machine.execDecode s
  | .classify => Sys2Proof.Machine.execClassify s
  | .tick => Sys2Proof.Machine.execTick s
  | .iopReserved7 => Sys2Proof.Machine.execIopReserved7 s
  | .iopReserved8F iop => Sys2Proof.Machine.execIopReserved8F iop s

end Sys2Proof.Machine
end

