-- ==== Sys2Proof/Machine/Schedule.lean ====
section
/-! DEFINITION. Which agent moves and what it runs (00_scope.md R12, 44_scan_loop.md R180, 30_encoding.md R99): the
state register selects the FSM's step, the agenda's words are the other agents' transactions. Machine/Step.lean calls
these. -/

namespace Sys2Proof.Machine

/-- Run the word of a format: decode it, and execute what it says. A port word's bytes are least significant first
(assumption log 22). -/
def runWord (fmt : Format) (bytes : List Byte) (s : State) : Host.Outcome State Fault Refusal :=
  match decode fmt bytes with
  | .ok (i, _) => exec i s
  | .error r => .refused (.undecodable r)

/-- The word the FSM's step is selected by: the state register, alone (10_state.md R21). -/
def State.stateWord (s : State) : List Byte := [s.st.setWidth 8]

/-- The FSM moves: the step its state register selects. -/
def fsmMove (s : State) : Host.Outcome State Fault Refusal := runWord .fsmState s.stateWord s

/-- Reset (70_reset_and_hazards.md R260): every element of the spec's at its reset value; the agenda, the model's own,
is the environment's and stays. -/
def State.applyReset (s : State) : State := State.reset.setAgenda s.agenda

/-- One item of the agenda, at the state whose agenda is what comes after it. -/
def runItem (it : Item) (s : State) : Host.Outcome State Fault Refusal :=
  match it with
  | .reset => .next s.applyReset
  | .fsm => fsmMove s
  | .step => if s.fsmEnabled then fsmMove s else .refused .stepNotEnabled
  | .run => if s.fsmEnabled then fsmMove (s.setAgenda (.run :: s.agenda)) else .next s
  | .op fmt bytes => runWord fmt bytes s

/-- State code 7 admits no step but reset (10_state.md R22: "takes no step and records `raise
ModelFault(ReservedState)`"). -/
def runNext (it : Item) (s : State) : Host.Outcome State Fault Refusal :=
  if s.st = stReserved ∧ it ≠ .reset then .fault .reservedState else runItem it s

/-- Store a table word where the next step fetches it (assumption log 13): a state code in the state register, with
the FSM to move; any other word at the head of the agenda. -/
def placeWord (nbits w : Nat) (s : State) : State :=
  match tableFormat nbits (w % 2 ^ nbits) with
  | .fsmState => { s with st := BitVec.ofNat 3 w, agenda := .fsm :: s.agenda }
  | fmt => { s with agenda := .op fmt (tableBytes nbits w) :: s.agenda }

end Sys2Proof.Machine
end

