-- ==== Sys2Proof/Machine/Step.lean ====
section
/-! DEFINITION. One step of the machine: the agenda's head, or the FSM where the agenda is empty. -/

namespace Sys2Proof.Machine

/-- One step of one agent (00_scope.md R12). With nothing on the agenda the environment is silent and the FSM moves
(assumption log 2). -/
def step (s : State) : Host.Outcome State Fault Refusal :=
  match s.agenda with
  | [] => runNext .fsm s
  | it :: rest => runNext it (s.setAgenda rest)

/-- `s` with a table word stored where `step` fetches next. -/
def State.withFetchWord (s : State) (nbits w : Nat) : State := placeWord nbits w s

end Sys2Proof.Machine
end

