-- ==== Sys2Proof/Machine/Timers.lean ====
section
/-! DEFINITION. The timed reading of the spec (70_reset_and_hazards.md R263, R281; 60_exceptions.md R252, R253;
45_interfaces.md R221, R222): which time-stamped schedules HOPTMR and QTMR allow. It only restricts when the untimed
model's free choices happen (92_eei_decisions.md D33); `step` has no clock (assumption log 16). Times are in
microseconds. -/

namespace Sys2Proof.Machine

/-- The item is HOPTMR's step, the word TICK (30_encoding.md R93). -/
def Item.isTick : Item → Bool
  | .op .internalOp bytes => bytes.take 1 == [6]
  | _ => false

/-- The item lets the FSM move. -/
def Item.movesFsm : Item → Bool
  | .fsm | .step => true
  | _ => false

/-- What the timed reading remembers: the time of the last step, the end of reset `T0`, the ticks since `T0`, and when
S_QUIET was last entered. -/
structure Clock where
  now     : Nat
  t0      : Nat
  ticks   : Nat
  quietAt : Nat
deriving DecidableEq, Repr

/-- When the next tick is due: `T0 + k * HOP_PERIOD` (70_reset_and_hazards.md R263). -/
def Clock.due (c : Clock) : Nat := c.t0 + (c.ticks + 1) * Config.hopPeriod

/-- Whether an item may happen at a time: time does not run back; a tick happens exactly when it is due, and nothing
happens after a due tick before it; S_QUIET is left no earlier than QUIET_DELAY after it was entered. The script's `run`
stands for several steps and is no item of a timed schedule. -/
def Clock.allows (c : Clock) (s : State) (t : Nat) (it : Item) : Bool :=
  decide (c.now ≤ t)
    && (if it.isTick then t == c.due else decide (t ≤ c.due))
    && !(it.movesFsm && s.st == stQuiet && decide (t < c.quietAt + Config.quietDelay))
    && it != .run

/-- The clock after an item that led from `s` to `s'` at time `t`; the hop timer starts again at the end of reset. -/
def Clock.after (c : Clock) (s s' : State) (t : Nat) (it : Item) : Clock :=
  { now := t
    t0 := if it = .reset then t else c.t0
    ticks := if it = .reset then 0 else if it.isTick then c.ticks + 1 else c.ticks
    quietAt := if s'.st = stQuiet ∧ s.st ≠ stQuiet then t else c.quietAt }

/-- Run a time-stamped schedule, as long as the clock allows each item and it has a step: the clock and the state after
it. -/
def timedRun : Clock → State → List (Nat × Item) → Option (Clock × State)
  | c, s, [] => some (c, s)
  | c, s, (t, it) :: rest =>
    if c.allows s t it then
      match runNext it s with
      | .next s' => timedRun (c.after s s' t it) s' rest
      | .fault _ => none
      | .refused _ => none
    else none

end Sys2Proof.Machine
end

