-- ==== Sys2Proof/Safety.lean ====
section
/-! DEFINITION. What claims about WPANSCAN are made of: the invariants of its step boundaries (10_state.md R42 and the
ownership rules of 20_memory.md), what a step leaves unchanged, runs of one agent, and fair runs (45_interfaces.md
R231). -/

namespace Sys2Proof.Machine

/-! ## Outcomes -/

/-- The step goes on. -/
def Completes (o : Host.Outcome State Fault Refusal) : Prop := ∃ t, o = .next t

/-- The step does not stop with a fault. -/
def NoFault (o : Host.Outcome State Fault Refusal) : Prop := ∀ r, o ≠ .fault r

/-- Run operations one after the other. -/
def execAll : List Instr → State → Host.Outcome State Fault Refusal
  | [], s => .next s
  | i :: is, s =>
    match exec i s with
    | .next s' => execAll is s'
    | .fault r => .fault r
    | .refused r => .refused r

/-- The FSM alone takes `k` steps. -/
def fsmSteps : Nat → State → Host.Outcome State Fault Refusal
  | 0, s => .next s
  | k + 1, s =>
    match fsmMove s with
    | .next s' => fsmSteps k s'
    | .fault r => .fault r
    | .refused r => .refused r

/-- ADVANCE `k` times (43_channel_sequencer.md R173). -/
def advanceTimes : Nat → BitVec 4 → BitVec 4
  | 0, i => i
  | k + 1, i => advanceTimes k (nextIndex i)

/-! ## Schedules of agents -/

/-- The item is a step of one of the spec's agents or a reset: the FSM's, a radio response, or a tick (00_scope.md R12,
45_interfaces.md). -/
def Item.isAgent : Item → Bool
  | .reset | .fsm | .step | .run => true
  | .op .radioRsp _ => true
  | it => it.isTick

/-! ## Invariants -/

/-- The invariants of a step boundary. -/
structure ScanInv (s : State) : Prop where
  /-- No rule reaches state code 7 (10_state.md R22). -/
  legal : s.st ≠ stReserved
  /-- `rx_armed = 1` exactly when `st = S_RACING` (10_state.md R42 (1)). -/
  armed : s.rxArmed = true ↔ s.st = stRacing
  /-- `tx_inflight = 1` exactly when `st = S_HOP_TXWAIT` (R42 (2)). -/
  inflight : s.txInflight = true ↔ s.st = stHopTxwait
  /-- `rx_done_pending = 1` only in S_RACING or S_RX, and always in S_RX (R42 (3)). -/
  rxDone : s.rxDonePending = true → s.st = stRacing ∨ s.st = stRx
  rxHeld : s.st = stRx → s.rxDonePending = true
  /-- `tx_done_pending = 1` only in S_HOP_TXWAIT (R42 (4)). -/
  txDone : s.txDonePending = true → s.st = stHopTxwait
  /-- After the S_INIT step `tune_ch = CHANNELS[ch_idx]` (R42 (5)), the channel of the last TUNE (10_state.md R30). -/
  tuned : s.st ≠ stInit → s.tuneCh = s.chan ∧ radioChannel s.rc = some s.tuneCh
  /-- A latched receive response is one of the three kinds, and a received frame is there to be read (20_memory.md R62
  (1)). -/
  rxKinds : s.rxDonePending = true → s.rxKind = kindRxOk ∨ s.rxKind = kindRxCrc ∨ s.rxKind = kindRxErr
  rxHeldFrame : s.rxDonePending = true → s.rxKind = kindRxOk → ∃ b, s.rxFrame = .ok b
  /-- A latched transmit response is one of the two kinds. -/
  txKinds : s.txDonePending = true → s.txKind = kindTxOk ∨ s.txKind = kindTxErr
  /-- While a transmit is outstanding `tx_buf` holds the request of the current `seq` (20_memory.md R61, R62 (2)). -/
  txHeldFrame : s.txInflight = true → s.txFrame = some (encodeFrame (buildRequest s.seq Config.reqFrameVersion))
  /-- Both buffers are in canonical form. -/
  txWf : Memory.wf s.txBuf = true
  rxWf : Memory.wf s.rxBuf = true
  /-- The agenda holds steps of the spec's agents only. -/
  agents : s.agenda.all Item.isAgent = true

/-! ## Frames -/

/-- What the collaborators' steps may write: the response latches, `rx_buf` and the tick latch (10_state.md R34). -/
def SameButLatches (s t : State) : Prop :=
  t = { s with tickPending := t.tickPending, rxDonePending := t.rxDonePending, rxKind := t.rxKind, rxLen := t.rxLen
               rxCrc := t.rxCrc, rxErr := t.rxErr, rxBuf := t.rxBuf, txDonePending := t.txDonePending
               txKind := t.txKind, txErr := t.txErr }

/-- The datapath's transient values replaced: what no agent's step may depend on (10_state.md R40). -/
def withDp (d : Datapath) : Host.Outcome State Fault Refusal → Host.Outcome State Fault Refusal
  | .next s => .next (s.setDp d)
  | .fault r => .fault r
  | .refused r => .refused r

/-! ## Fair runs (45_interfaces.md R231) -/

/-- An infinite run of the agents without a reset: item `α n` leads from `σ n` to `σ (n+1)`; ticks happen infinitely
often, every transmit is answered, and a continuously enabled FSM moves. -/
structure FairRun (σ : Nat → State) (α : Nat → Item) : Prop where
  start : ScanInv (σ 0)
  agent : ∀ n, (α n).isAgent = true ∧ α n ≠ .reset ∧ α n ≠ .run
  steps : ∀ n, runNext (α n) (σ n) = .next (σ (n + 1))
  ticks : ∀ n, ∃ m, n ≤ m ∧ (α m).isTick = true
  answers : ∀ n, (σ n).txInflight = true → ∃ m, n ≤ m ∧ (σ m).txDonePending = true
  moves : ∀ n, (∀ m, n ≤ m → (σ m).fsmEnabled = true) → ∃ m, n ≤ m ∧ (α m).movesFsm = true

end Sys2Proof.Machine
end

