-- ==== Sys2Proof/WellFormed.lean ====
section
/-! DEFINITION. Which operands a row's word may carry. One Bool, so that it is decidable. -/

namespace Sys2Proof

/-- A channel number (00_scope.md R7: 11 to 26). -/
def chanOk (c : BitVec 5) : Bool := decide (11 ≤ c.toNat ∧ c.toNat ≤ 26)

/-- The operands a word of each row may carry: a row under an FCF selector has its own selector value
(30_encoding.md R72 to R74); `CMD_OTHER` is not the beacon request (R83); a TUNE and an event name one of the sixteen
channels (R86, R90); a frame has at most MAX_FRAME_LEN bytes (R86, R88, R90); an observed source is short, and then
zero-extended, or extended (R90); DERR codes are 1 to 6 (R92); a reserved row's code is a reserved one
(R89, R91, R93). The meanings do not check it: what a row does with other operands is the model's choice (assumption logs 10
and 23). -/
def Instr.WellFormed : Instr → Bool
  | .frameBeacon f => f.ftype == 0
  | .frameData f => f.ftype == 1
  | .frameAck f => f.ftype == 2
  | .frameCommand f => f.ftype == 3
  | .frameTypeReserved f => decide (4 ≤ f.ftype.toNat)
  | .dstNone f => f.dstMode == 0
  | .dstModeReserved f => f.dstMode == 1
  | .dstShort f => f.dstMode == 2
  | .dstExt f => f.dstMode == 3
  | .srcNone f => f.srcMode == 0
  | .srcModeReserved f => f.srcMode == 1
  | .srcShort f => f.srcMode == 2
  | .srcExt f => f.srcMode == 3
  | .version2003 f => f.fver == 0
  | .version2006 f => f.fver == 1
  | .versionReserved f => decide (2 ≤ f.fver.toNat)
  | .cmdBeaconRequest => true
  | .cmdOther cid => cid != 7
  | .tune chan => chanOk chan
  | .rxStart | .rxAbort => true
  | .txStart len => decide (len.toNat ≤ Config.maxFrameLen)
  | .rxOk bytes => decide (bytes.length ≤ Config.maxFrameLen)
  | .rxCrc _ | .rxErr _ | .txOk | .txErr _ => true
  | .rspReserved kind => decide (5 ≤ kind.toNat)
  | .beaconObserved chan _ smode saddr _ _ =>
      chanOk chan && (smode == 3 || (smode == 2 && decide (saddr.toNat < 65536)))
  | .decodeError chan code raw =>
      chanOk chan && decide (1 ≤ code.toNat ∧ code.toNat ≤ 6) && decide (raw.length ≤ Config.maxFrameLen)
  | .linkQualityFault chan _ => chanOk chan
  | .receiveFault chan _ => chanOk chan
  | .requestSent chan _ => chanOk chan
  | .transmitFault chan _ _ => chanOk chan
  | .eventReserved code => decide (6 ≤ code.toNat)
  | .sInit | .sIdle | .sRacing | .sRx | .sHopPrep | .sHopTxwait | .sQuiet | .stReserved => true
  | .current | .advance | .buildRequest | .encode | .decode | .classify | .tick | .iopReserved7 => true
  | .iopReserved8F iop => decide (8 ≤ iop.toNat)

end Sys2Proof
end

