-- ==== Sys2Proof/Certificates/Slice0/Obligations.lean ====
section
/-! DEFINITION. The statements for the provers, from the numbered rules of spec/. Each docstring names the rule it
formalises; where a clause rests on a choice of the model's, it names the assumption log's entry. -/

open Sys2Proof Sys2Proof.Machine

/-! ## Helpers of the statements -/

/-- The little-endian value of `n` bytes at an offset. -/
def Sys2Proof.Machine.leAt (b : List Byte) (p n : Nat) : Nat := leNat ((b.drop p).take n)

/-- Where the source's fields begin (30_encoding.md R75). -/
def Sys2Proof.Machine.srcOffset (f : Fcf) : Nat := 3 + (if f.dstMode = 0 then 0 else 2 + alen f.dstMode)

/-- The destination slot a frame's bytes give under its frame control field (30_encoding.md R73, R75, R85). -/
def Sys2Proof.Machine.dstSlot (b : List Byte) (f : Fcf) : Addr :=
  if f.dstMode = 0 then { mode := 0, pan := 0, addr := 0 }
  else { mode := f.dstMode, pan := BitVec.ofNat 16 (leAt b 3 2), addr := BitVec.ofNat 64 (leAt b 5 (alen f.dstMode)) }

/-- The source slot a frame's bytes give under its frame control field (30_encoding.md R73, R75, R76, R85). -/
def Sys2Proof.Machine.srcSlot (b : List Byte) (f : Fcf) : Addr :=
  let p := srcOffset f
  if f.srcMode = 0 then { mode := 0, pan := 0, addr := 0 }
  else if f.pidc = true ∧ f.dstMode ≠ 0 then
    { mode := f.srcMode, pan := BitVec.ofNat 16 (leAt b 3 2), addr := BitVec.ofNat 64 (leAt b p (alen f.srcMode)) }
  else
    { mode := f.srcMode, pan := BitVec.ofNat 16 (leAt b p 2)
      addr := BitVec.ofNat 64 (leAt b (p + 2) (alen f.srcMode)) }

/-- The record of a frame with this header, content and payload (40_frame_codec.md R110, R120). -/
def Sys2Proof.Machine.recordOf (b : List Byte) (f : Fcf) (c : Content) (pl : List Byte) : Frame :=
  { ftype := f.ftype, sec := false, pend := f.pend, ackreq := f.ackreq, pidc := f.pidc, fver := f.fver
    seq := BitVec.ofNat 8 (leAt b 2 1), dst := dstSlot b f, src := srcSlot b f, content := c, pl := pl }

/-- The codes of the decode errors (30_encoding.md R92). -/
def Sys2Proof.Machine.decodeErrorCodes : List (DecErr × BitVec 8) :=
  [(.truncated, 1), (.frameType, 2), (.security, 3), (.addrMode, 4), (.version, 5), (.panidComp, 6)]

/-- The `n` low bytes of a field, least significant first (20_memory.md R51). -/
def Sys2Proof.Machine.fieldBytes {w : Nat} (n : Nat) (v : BitVec w) : List Byte :=
  (List.range n).map fun i => v.extractLsb' (8 * i) 8

/-- The bytes of an address slot, with or without its PAN identifier (30_encoding.md R73, R75, R85). -/
def Sys2Proof.Machine.slotBytes (a : Addr) (withPan : Bool) : List Byte :=
  if a.mode = 0 then []
  else (if withPan then fieldBytes 2 a.pan else []) ++
    (if a.mode = 2 then fieldBytes 2 a.addr else if a.mode = 3 then fieldBytes 8 a.addr else [])

/-- The bytes of a record, written out from the layouts: the frame control field's two bytes with bits 9:7 zero, the
sequence number, the destination, the source without its PAN identifier under compression with a destination, the
content with a beacon's GTS and pending address specifications zero, the payload (30_encoding.md R71, R75, R76,
40_frame_codec.md R115 to R118). -/
def Sys2Proof.Machine.frameBytes (f : Frame) : List Byte :=
  [BitVec.ofNat 8 (f.ftype.toNat + 8 * f.sec.toNat + 16 * f.pend.toNat + 32 * f.ackreq.toNat + 64 * f.pidc.toNat),
   BitVec.ofNat 8 (4 * f.dst.mode.toNat + 16 * f.fver.toNat + 64 * f.src.mode.toNat), f.seq] ++
  slotBytes f.dst true ++ slotBytes f.src (!(f.pidc && f.dst.mode != 0)) ++
  (match f.content with
    | .beacon sf _ _ _ => fieldBytes 2 sf ++ [0, 0]
    | .command cid => [cid]
    | .data => []
    | .other => []) ++ f.pl

/-- A slot with an address mode that is not held, or with field values its variant does not have (40_frame_codec.md
R111, R114 (4)). -/
def Sys2Proof.Machine.Addr.IllFormed (a : Addr) : Prop :=
  a.mode = 1 ∨ (a.mode = 0 ∧ (a.pan ≠ 0 ∨ a.addr ≠ 0)) ∨ (a.mode = 2 ∧ 65536 ≤ a.addr.toNat)

/-- A record that fails one of the eight conditions, in their order (40_frame_codec.md R114). -/
def Sys2Proof.Machine.Frame.IllFormed (f : Frame) : Prop :=
  ((∃ sf g p e, f.content = .beacon sf g p e) ∧ f.ftype ≠ 0) ∨ (f.content = .data ∧ f.ftype ≠ 1) ∨
    (f.content = .other ∧ f.ftype ≠ 2) ∨ ((∃ cid, f.content = .command cid) ∧ f.ftype ≠ 3) ∨
  f.sec = true ∨
  2 ≤ f.fver.toNat ∨
  f.dst.IllFormed ∨ f.src.IllFormed ∨
  (f.pidc = true ∧ f.src.mode ≠ 0 ∧ f.dst.mode = 0) ∨
  (f.pidc = true ∧ f.src.mode ≠ 0 ∧ f.dst.mode ≠ 0 ∧ f.src.pan ≠ f.dst.pan) ∨
  (∃ sf g p e, f.content = .beacon sf g p e ∧ (g ≠ 0 ∨ p ≠ 0 ∨ e ≠ 0)) ∨
  125 < (frameBytes f).length

/-- The datapath after a decode class that failed: the error, and nothing else. -/
def Sys2Proof.Machine.failedWith (s : State) (e : DecErr) : State := { s with dp := { s.dp with derr := some e } }

/-- The rows of the four FCF selectors. -/
def Sys2Proof.Machine.fcfRows (f : Fcf) : List Instr :=
  [.frameBeacon f, .frameData f, .frameAck f, .frameCommand f, .frameTypeReserved f, .dstNone f, .dstModeReserved f,
   .dstShort f, .dstExt f, .srcNone f, .srcModeReserved f, .srcShort f, .srcExt f, .version2003 f, .version2006 f,
   .versionReserved f]

/-- The transmit reports of an event trace. -/
def Sys2Proof.Machine.txReports (ev : List Evt) : Nat :=
  (ev.filter fun e => e.code == .requestSent || e.code == .transmitFault).length

/-- The commands of a kind in a command trace. -/
def Sys2Proof.Machine.txStarts (rc : List Rcmd) : Nat :=
  (rc.filter fun c => match c with | .txStart _ => true | _ => false).length

/-- The head of the agenda is a step of one of the spec's agents. -/
def Sys2Proof.Machine.State.nextIsAgent (s : State) : Bool :=
  match s.agenda with
  | [] => true
  | it :: _ => it.isAgent

/-- The head of the agenda is no reset. -/
def Sys2Proof.Machine.State.nextIsNoReset (s : State) : Bool :=
  match s.agenda with
  | .reset :: _ => false
  | _ => true

/-! ## Encodings -/

/-- 30_encoding.md R71, R72 to R74, R82, R83, R86 to R91, R93; 10_state.md R21 (derived; a port word's byte order is
the model's choice, log 22): every well-formed operation decodes from its own bytes, whatever follows them, with every
operand as it was. -/
def Obligations.DecodeOfEncodeIsTheInstruction : Prop :=
  ∀ (i : Instr) (rest : List Byte), i.WellFormed = true → decode i.format (encode i ++ rest) = .ok (i, rest)

/-- 30_encoding.md R96 (derived; the value of a port word's bytes, least significant first, is the model's choice, log
22): a value selects the first row in file order with `(w & mask) = match`, some row for every value, and that row is
the operation the decoder reads. -/
def Obligations.DecodeSelectsFirstMatchingRow : Prop :=
  (∀ (fmt : Format) (v : Nat), (selectRow fmt v).isSome = true) ∧
  ∀ (fmt : Format) (bs rest : List Byte) (i : Instr), decode fmt bs = .ok (i, rest) →
    i.format = fmt ∧ ∃ r, selectRow fmt (leNat (bs.take fmt.bytes)) = some r ∧ r.name = i.mnemonic

/-- 30_encoding.md R71, R83, R86, R88, R91, R93 and 10_state.md R21 (derived; a port word's byte order is the model's
choice, log 22): words written out from the tables decode to the operations they stand for. -/
def Obligations.WrittenWordsDecode : Prop :=
  decode .fcfFrameType [0x03, 0x08] =
    .ok (.frameCommand { ftype := 3, sec := false, pend := false, ackreq := false, pidc := false, resv := 0
                         dstMode := 2, fver := 0, srcMode := 0 }, []) ∧
  decode .fcfFrameType [0x08, 0x00] =
    .ok (.frameBeacon { ftype := 0, sec := true, pend := false, ackreq := false, pidc := false, resv := 0
                        dstMode := 0, fver := 0, srcMode := 0 }, []) ∧
  decode .fcfFrameType [0x10, 0x00] =
    .ok (.frameBeacon { ftype := 0, sec := false, pend := true, ackreq := false, pidc := false, resv := 0
                        dstMode := 0, fver := 0, srcMode := 0 }, []) ∧
  decode .fcfFrameType [0xA0, 0x13] =
    .ok (.frameBeacon { ftype := 0, sec := false, pend := false, ackreq := true, pidc := false, resv := 7
                        dstMode := 0, fver := 1, srcMode := 0 }, []) ∧
  decode .fcfSrcAddrMode [0x40, 0xC8] =
    .ok (.srcExt { ftype := 0, sec := false, pend := false, ackreq := false, pidc := true, resv := 0
                   dstMode := 2, fver := 0, srcMode := 3 }, []) ∧
  decode .macCommandId [0x07] = .ok (.cmdBeaconRequest, []) ∧
  decode .radioCmd [0x00, 0x0C, 0x00, 0x00] = .ok (.tune 12, []) ∧
  decode .radioCmd [0x03, 0x00, 0x08, 0x00] = .ok (.txStart 8, []) ∧
  decode .radioRsp [0x01, 0x00, 0x00, 0x00, 0xEF, 0xBE] = .ok (.rxCrc 0xBEEF, []) ∧
  decode .radioRsp [0x00, 0x01, 0x00, 0x00, 0x00, 0x00, 0x41] = .ok (.rxOk [0x41], []) ∧
  decode .fsmState [0x05] = .ok (.sHopTxwait, []) ∧
  decode .internalOp [0x06] = .ok (.tick, [])

/-- 30_encoding.md R86, R87 (derived): every field of a radio command word stands where the table puts it, the
reserved bits and the fields a command does not use are 0. -/
def Obligations.RadioCommandWordLayout : Prop :=
  (∀ c : Rcmd, c.word.extractLsb' 2 6 = 0 ∧ c.word.extractLsb' 13 3 = 0 ∧ c.word.extractLsb' 23 9 = 0) ∧
  (∀ chan, (Rcmd.tune chan).word.extractLsb' 0 2 = 0 ∧ (Rcmd.tune chan).word.extractLsb' 8 5 = chan ∧
    (Rcmd.tune chan).word.extractLsb' 16 7 = 0) ∧
  (∀ len, (Rcmd.txStart len).word.extractLsb' 0 2 = 3 ∧ (Rcmd.txStart len).word.extractLsb' 8 5 = 0 ∧
    (Rcmd.txStart len).word.extractLsb' 16 7 = len) ∧
  Rcmd.rxStart.word = 1 ∧ Rcmd.rxAbort.word = 2

/-- 30_encoding.md R88 (derived): every field of a radio response word stands where the table puts it. -/
def Obligations.RadioResponseWordLayout : Prop :=
  ∀ (kind : BitVec 3) (len : BitVec 7) (err : BitVec 8) (crc : BitVec 16),
    let w := rrspWord kind len err crc
    w.extractLsb' 0 3 = kind ∧ w.extractLsb' 3 5 = 0 ∧ w.extractLsb' 8 7 = len ∧ w.extractLsb' 15 1 = 0 ∧
      w.extractLsb' 16 8 = err ∧ w.extractLsb' 24 8 = 0 ∧ w.extractLsb' 32 16 = crc

/-- 30_encoding.md R90, R91 (derived): every field of an event record's header stands where the table puts it, the
event's code of the table among them. -/
def Obligations.EventHeaderLayout : Prop :=
  ∀ e : Evt, e.raw.length ≤ Config.maxFrameLen →
    (e.code, e.header.extractLsb' 0 3) ∈ [(EvtCode.beaconObserved, (0 : BitVec 3)), (.decodeError, 1),
      (.linkQualityFault, 2), (.receiveFault, 3), (.requestSent, 4), (.transmitFault, 5)] ∧
    e.header.extractLsb' 3 5 = e.chan ∧ e.header.extractLsb' 8 8 = e.seq ∧
    e.header.extractLsb' 16 16 = e.v16 ∧ e.header.extractLsb' 32 2 = e.smode ∧ e.header.getLsbD 34 = e.coord ∧
    e.header.getLsbD 35 = e.join ∧ e.header.extractLsb' 36 8 = e.k8 ∧
    (e.header.extractLsb' 44 7).toNat = e.raw.length ∧ e.header.extractLsb' 51 13 = 0 ∧
    e.header.extractLsb' 64 64 = e.saddr

/-! ## Buffers -/

/-- 20_memory.md R53: MemWrite stores the low bytes of a value, least significant first, and no others; MemRead is
their sum; a mixed-width access sees the same bytes. -/
def Obligations.BufferPrimitivesAreLittleEndian : Prop :=
  (∀ (m : Memory) (off n i : Nat) (v : BitVec 64), n = 1 ∨ n = 2 ∨ n = 8 → i < n →
    bufRead (memWrite m off n v) (off + i) = some (v.extractLsb' (8 * i) 8)) ∧
  (∀ (m : Memory) (off n a : Nat) (v : BitVec 64), a < off ∨ off + n ≤ a →
    bufRead (memWrite m off n v) a = bufRead m a) ∧
  (∀ (b : List Byte) (off n : Nat), n = 1 ∨ n = 2 ∨ n = 8 → off + n ≤ b.length →
    (memRead b off n).toNat = ((List.range n).map fun i => (b.getD (off + i) 0).toNat * 2 ^ (8 * i)).sum) ∧
  (∀ (b : List Byte) (off : Nat), off + 2 ≤ b.length → (memRead b off 2).extractLsb' 0 8 = b.getD off 0)

/-- 20_memory.md R50, R56 (derived): every step keeps both buffers in canonical form: offsets rising, each listed
once, none past the 125 bytes. It covers the operations driven by themselves as well as the agents' steps. -/
def Obligations.StepKeepsBuffersCanonical : Prop :=
  ∀ s t : State, Memory.wf s.txBuf = true → Memory.wf s.rxBuf = true → step s = .next t →
    Memory.wf t.txBuf = true ∧ Memory.wf t.rxBuf = true

/-! ## Channel sequencer -/

/-- 43_channel_sequencer.md R171 (derived; where the answer is put, and that it runs by itself at any `st`, are the
model's choices, logs 1 and 24): CURRENT answers `11 + ch_idx` and writes no state of the spec's. -/
def Obligations.CurrentAnswersTheChannel : Prop :=
  ∀ s : State, exec .current s =
    .next { s with dp := { s.dp with chan := BitVec.ofNat 5 (11 + s.chIdx.toNat) } }

/-- 43_channel_sequencer.md R172 (derived; that ADVANCE runs by itself at any `st`, not in S_HOP_PREP alone, is the
model's choice, log 24): ADVANCE moves the index to the next channel, from 15 to 0, and changes nothing else. -/
def Obligations.AdvanceMovesToTheNextChannel : Prop :=
  ∀ s : State, exec .advance s = .next { s with chIdx := BitVec.ofNat 4 ((s.chIdx.toNat + 1) % 16) }

/-- 43_channel_sequencer.md R173: sixteen ADVANCEs close the round, and CURRENT takes each of the sixteen channel
numbers once on the way. -/
def Obligations.SixteenAdvancesCloseTheRound : Prop :=
  ∀ i : BitVec 4, advanceTimes 16 i = i ∧
    ∀ c : BitVec 5, 11 ≤ c.toNat → c.toNat ≤ 26 →
      ∃ k : Fin 16, currentChannel (advanceTimes k i) = c ∧
        ∀ j : Fin 16, currentChannel (advanceTimes j i) = c → j = k

/-! ## Request builder, encoder, decoder, classifier -/

/-- 41_request_builder.md R150 (derived; where the record is put, and that it runs by itself at any `st`, are the
model's choices, logs 1 and 24): the record BUILD_REQUEST produces from the current `seq`. -/
def Obligations.BuildRequestMakesTheDiscoveryRequest : Prop :=
  ∀ s : State, exec .buildRequest s =
    let r : Frame :=
      { ftype := 3, sec := false, pend := false, ackreq := false, pidc := false, fver := Config.reqFrameVersion
        seq := s.seq, dst := { mode := 2, pan := 0xFFFF, addr := 0xFFFF }, src := { mode := 0, pan := 0, addr := 0 }
        content := .command 7, pl := [] }
    .next { s with dp := { s.dp with frame := r } }

/-- 41_request_builder.md R151, R152, R153 (derived; where ENCODE finds its record, and that it runs by itself at any
`st`, are the model's choices, logs 1 and 24): ENCODE of a request never refuses and writes exactly these eight bytes;
the bytes from offset 8 on are not written. -/
def Obligations.RequestEncodesToEightBytes : Prop :=
  ∀ (s : State) (q : BitVec 8) (v : BitVec 2), v.toNat ≤ 1 → s.dp.frame = buildRequest q v →
    ∃ t, exec .encode s = .next t ∧
      bufReadBytes t.txBuf 0 8 = some [0x03, BitVec.ofNat 8 (8 + 16 * v.toNat), q, 0xFF, 0xFF, 0xFF, 0xFF, 0x07] ∧
      t.dp.len = 8 ∧ ∀ a, 8 ≤ a → bufRead t.txBuf a = bufRead s.txBuf a

/-- 40_frame_codec.md R115 to R118 (derived; where ENCODE finds its record, and that it runs by itself at any `st`,
are the model's choices, logs 1 and 24): ENCODE completes on every well-formed record, writes its bytes as the layouts
give them, reserved bits zero, from offset 0 on and no others, and answers their number. -/
def Obligations.EncodeWritesTheRecordAndNothingElse : Prop :=
  (∀ f : Frame, encodeFrame f = frameBytes f) ∧
  ∀ s : State, s.dp.frame.wf = true →
    ∃ t, exec .encode s = .next t ∧ t.dp.len.toNat = (frameBytes s.dp.frame).length ∧
      bufReadBytes t.txBuf 0 (frameBytes s.dp.frame).length = some (frameBytes s.dp.frame) ∧
      (∀ a, (frameBytes s.dp.frame).length ≤ a → bufRead t.txBuf a = bufRead s.txBuf a) ∧
      t = { s with txBuf := t.txBuf, dp := { s.dp with len := t.dp.len } }

/-- 40_frame_codec.md R114, R119 (derived; where ENCODE finds its record, and that it runs by itself at any `st`, are
the model's choices, logs 1 and 24): ENCODE refuses a record that fails any of the eight conditions of
well-formedness, and completes on every other. -/
def Obligations.EncodeRefusesIllFormedRecords : Prop :=
  ∀ s : State,
    (s.dp.frame.IllFormed → exec .encode s = .refused .encodeIllFormed) ∧
    (¬ s.dp.frame.IllFormed → Completes (exec .encode s))

/-- 40_frame_codec.md R131: what ENCODE writes into `tx_buf` decodes to the record it was given, for every well-formed
record; the discovery request decodes to a command, never to a beacon. -/
def Obligations.EncodedFramesDecodeBack : Prop :=
  (∀ (m : Memory) (f : Frame), f.wf = true →
    ∃ b, bufReadBytes (bufWriteBytes m 0 (encodeFrame f)) 0 (encodeFrame f).length = some b ∧ decodeFrame b = .ok f) ∧
  ∀ (q : BitVec 8) (v : BitVec 2), v.toNat ≤ 1 →
    ∃ f, decodeFrame (encodeFrame (buildRequest q v)) = .ok f ∧ f.content = .command 7 ∧ f.dst.isBcast = true

/-- 40_frame_codec.md R120 (derived; where the result is put, and that DECODE runs by itself at any `st`, are the
model's choices, logs 1 and 24): DECODE completes whenever the received bytes can be read, leaves the record or the
error code of its function in the datapath, and writes no state of the spec's. -/
def Obligations.DecodeDeliversRecordOrError : Prop :=
  ∀ (s : State) (b : List Byte), s.rxFrame = .ok b →
    (∀ f, decodeFrame b = .ok f → exec .decode s = .next { s with dp := { s.dp with frame := f, derr := none } }) ∧
    (∀ e, decodeFrame b = .error e → exec .decode s = .next (failedWith s e)) ∧
    Completes (exec .decode s)

/-- 40_frame_codec.md R121, with the layout of 30_encoding.md R71: the frame control field's bits in a frame's first
two bytes, read and written; the five checks on those bits, in their order, before any other check; and the bits a
decoded record carries. -/
def Obligations.DecodeChecksTheFcfInOrder : Prop :=
  ∀ (b0 b1 : Byte) (rest : List Byte) (w : BitVec 16), w = b1 ++ b0 →
    (∃ f, readFcf (b0 :: b1 :: rest) = .ok f ∧ f.toWord = w ∧ f.ftype = w.extractLsb' 0 3 ∧ f.sec = w.getLsbD 3 ∧
      f.pend = w.getLsbD 4 ∧ f.ackreq = w.getLsbD 5 ∧ f.pidc = w.getLsbD 6 ∧ f.resv = w.extractLsb' 7 3 ∧
      f.dstMode = w.extractLsb' 10 2 ∧ f.fver = w.extractLsb' 12 2 ∧ f.srcMode = w.extractLsb' 14 2) ∧
    (let r := decodeFrame (b0 :: b1 :: rest)
     if 4 ≤ (w.extractLsb' 0 3).toNat then r = .error .frameType
     else if w.getLsbD 3 = true then r = .error .security
     else if w.extractLsb' 10 2 = 1 ∨ w.extractLsb' 14 2 = 1 then r = .error .addrMode
     else if 2 ≤ (w.extractLsb' 12 2).toNat then r = .error .version
     else if w.getLsbD 6 = true ∧ w.extractLsb' 14 2 ≠ 0 ∧ w.extractLsb' 10 2 = 0 then r = .error .panidComp
     else r = .error .truncated ∨ ∃ f, r = .ok f ∧ f.ftype = w.extractLsb' 0 3 ∧ f.sec = false ∧
       f.pend = w.getLsbD 4 ∧ f.ackreq = w.getLsbD 5 ∧ f.pidc = w.getLsbD 6 ∧ f.fver = w.extractLsb' 12 2 ∧
       f.dst.mode = w.extractLsb' 10 2 ∧ f.src.mode = w.extractLsb' 14 2)

/-- 30_encoding.md R77: the header's length is told by the frame control field alone, and lies between 3 and 23. -/
def Obligations.HeaderLengthIsToldByTheFcf : Prop :=
  (∀ (b : List Byte) (f : Fcf) (a : BitVec 8 × Addr × Addr × Nat), decodeSrc b f = .ok a →
    a.2.2.2 = 3 + (if f.dstMode ≠ 0 then 2 + alen f.dstMode else 0)
      + (if f.srcMode ≠ 0 then (if f.pidc = true ∧ f.dstMode ≠ 0 then 0 else 2) + alen f.srcMode else 0)) ∧
  (∀ f : Fcf, fcfCheck f = .ok () → 3 ≤ hdrLen f ∧ hdrLen f ≤ 23) ∧
  (∃ f : Fcf, fcfCheck f = .ok () ∧ hdrLen f = 3) ∧ ∃ f : Fcf, fcfCheck f = .ok () ∧ hdrLen f = 23

/-- 40_frame_codec.md R129: every byte after the last field the content stage requires is payload, and its presence is
never an error. -/
def Obligations.TrailingBytesArePayload : Prop :=
  ∀ (b t : List Byte) (f : Frame), decodeFrame b = .ok f → decodeFrame (b ++ t) = .ok { f with pl := f.pl ++ t }

/-- 40_frame_codec.md R128 (derived): a frame that ends exactly after its last required field is not truncated; cut
anywhere before that it is DE_TRUNCATED. -/
def Obligations.CutFramesAreTruncated : Prop :=
  ∀ (b : List Byte) (f : Frame), decodeFrame b = .ok f →
    decodeFrame (b.take (b.length - f.pl.length)) = .ok { f with pl := [] } ∧
    ∀ k, k < b.length - f.pl.length → decodeFrame (b.take k) = .error .truncated

/-- 42_beacon_classifier.md R160 (derived; where the record is found and the tuple put, and that it runs by itself at
any `st`, are the model's choices, logs 1 and 24): CLASSIFY answers the beacon's tuple if the record is a beacon with
a source, and nothing otherwise; it writes no state of the spec's. -/
def Obligations.ClassifyExtractsBeaconFields : Prop :=
  ∀ s : State,
    (∀ sf g p e, s.dp.frame.content = .beacon sf g p e → s.dp.frame.src.mode ≠ 0 →
      let o : Observation := { pan := s.dp.frame.src.pan, smode := s.dp.frame.src.mode, saddr := s.dp.frame.src.addr
                               coord := sf.getLsbD 14, join := sf.getLsbD 15 }
      exec .classify s = .next { s with dp := { s.dp with obs := some o } }) ∧
    ((∀ sf g p e, s.dp.frame.content ≠ .beacon sf g p e) ∨ s.dp.frame.src.mode = 0 →
      exec .classify s = .next { s with dp := { s.dp with obs := none } })

/-! ## Decode classes -/

/-- 40_frame_codec.md R121, 30_encoding.md R94 (derived; a row's standing alone is the model's choice, log 10): a row
whose frame control field fails a check answers that check's error and nothing else; the reserved rows answer theirs
where no earlier check fails. -/
def Obligations.FailedFcfChecksAreAnswered : Prop :=
  ∀ (s : State) (b : List Byte) (f : Fcf), s.rxFrame = .ok b →
    (∀ (e : DecErr) (i : Instr), i ∈ fcfRows f → fcfCheck f = .error e → exec i s = .next (failedWith s e)) ∧
    (4 ≤ f.ftype.toNat → exec (.frameTypeReserved f) s = .next (failedWith s .frameType)) ∧
    (f.ftype.toNat < 4 → f.sec = false → f.dstMode = 1 →
      exec (.dstModeReserved f) s = .next (failedWith s .addrMode)) ∧
    (f.ftype.toNat < 4 → f.sec = false → f.srcMode = 1 →
      exec (.srcModeReserved f) s = .next (failedWith s .addrMode)) ∧
    (f.ftype.toNat < 4 → f.sec = false → f.dstMode ≠ 1 → f.srcMode ≠ 1 → 2 ≤ f.fver.toNat →
      exec (.versionReserved f) s = .next (failedWith s .version))

/-- 30_encoding.md R74 (derived; log 10): both supported versions are accepted, the header bits enter the record, and
the rest of the record is as it was. -/
def Obligations.SupportedVersionsAreAccepted : Prop :=
  ∀ (s : State) (b : List Byte) (f : Fcf), s.rxFrame = .ok b → fcfCheck f = .ok () →
    let r (v : BitVec 2) : Frame :=
      { s.dp.frame with ftype := f.ftype, sec := false, pend := f.pend, ackreq := f.ackreq, pidc := f.pidc, fver := v }
    (f.fver = 0 → exec (.version2003 f) s = .next { s with dp := { s.dp with derr := none, frame := r 0 } }) ∧
    (f.fver = 1 → exec (.version2006 f) s = .next { s with dp := { s.dp with derr := none, frame := r 1 } })

/-- 30_encoding.md R74 (derived): frames of versions 0 and 1 decode identically but for the version itself. -/
def Obligations.VersionsZeroAndOneDecodeAlike : Prop :=
  ∀ (b : List Byte) (f : Fcf), f.fver = 0 →
    decodeRest b { f with fver := 1 } = (decodeRest b f).map fun r => { r with fver := 1 }

/-- 40_frame_codec.md R122, 30_encoding.md R73, R75, R85 (derived; log 10): the destination rows read the sequence
number and the destination's fields, little-endian, each where the layout puts it, and leave the rest of the record; a
frame too short for them is DE_TRUNCATED. -/
def Obligations.DestinationRowsReadTheAddress : Prop :=
  ∀ (s : State) (b : List Byte) (f : Fcf) (i : Instr), s.rxFrame = .ok b → fcfCheck f = .ok () →
    (i = .dstNone f ∧ f.dstMode = 0) ∨ (i = .dstShort f ∧ f.dstMode = 2) ∨ (i = .dstExt f ∧ f.dstMode = 3) →
    (srcOffset f ≤ b.length →
      let r : Frame := { s.dp.frame with
        ftype := f.ftype, sec := false, pend := f.pend, ackreq := f.ackreq, pidc := f.pidc, fver := f.fver
        seq := BitVec.ofNat 8 (leAt b 2 1), dst := dstSlot b f }
      exec i s = .next { s with dp := { s.dp with derr := none, frame := r } }) ∧
    (b.length < srcOffset f → exec i s = .next (failedWith s .truncated))

/-- 40_frame_codec.md R122, 30_encoding.md R73, R75, R76, R77, R85 (derived; log 10): the source rows read the
source's fields after the destination's; under compression with a destination the PAN identifier is the destination's
and is not read; the rest of the record is as it was; a frame shorter than its header is DE_TRUNCATED. -/
def Obligations.SourceRowsReadTheAddress : Prop :=
  ∀ (s : State) (b : List Byte) (f : Fcf) (i : Instr), s.rxFrame = .ok b → fcfCheck f = .ok () →
    (i = .srcNone f ∧ f.srcMode = 0) ∨ (i = .srcShort f ∧ f.srcMode = 2) ∨ (i = .srcExt f ∧ f.srcMode = 3) →
    (hdrLen f ≤ b.length →
      let r : Frame := { s.dp.frame with
        ftype := f.ftype, sec := false, pend := f.pend, ackreq := f.ackreq, pidc := f.pidc, fver := f.fver
        seq := BitVec.ofNat 8 (leAt b 2 1), dst := dstSlot b f, src := srcSlot b f }
      exec i s = .next { s with dp := { s.dp with derr := none, frame := r } }) ∧
    (b.length < hdrLen f → exec i s = .next (failedWith s .truncated))

/-- 40_frame_codec.md R124, R125, R126 (derived; log 10): the data, acknowledgment and command rows: no content field,
no content field, the command identifier; everything after is payload; too short a frame is DE_TRUNCATED. -/
def Obligations.DataAckAndCommandRowsReadTheirContent : Prop :=
  ∀ (s : State) (b : List Byte) (f : Fcf) (i : Instr) (c : Content) (n : Nat), s.rxFrame = .ok b → fcfCheck f = .ok () →
    (i = .frameData f ∧ f.ftype = 1 ∧ c = .data ∧ n = hdrLen f) ∨
      (i = .frameAck f ∧ f.ftype = 2 ∧ c = .other ∧ n = hdrLen f) ∨
      (i = .frameCommand f ∧ f.ftype = 3 ∧ c = .command (b.getD (hdrLen f) 0) ∧ n = hdrLen f + 1) →
    (n ≤ b.length →
      exec i s = .next { s with dp := { s.dp with derr := none, frame := recordOf b f c (b.drop n) } }) ∧
    (b.length < n → exec i s = .next (failedWith s .truncated))

/-- 40_frame_codec.md R123, 30_encoding.md R78, R80, R81 (derived; log 10): the beacon row reads the superframe
specification and the three counts, skips the lists they announce, and takes the rest as payload; a frame cut before
the end of what they announce is DE_TRUNCATED. -/
def Obligations.BeaconRowReadsItsContent : Prop :=
  ∀ (s : State) (b : List Byte) (f : Fcf) (gc ns ne p : Nat), s.rxFrame = .ok b → fcfCheck f = .ok () → f.ftype = 0 →
    gc = leAt b (hdrLen f + 2) 1 % 8 →
    p = hdrLen f + 3 + (if gc = 0 then 0 else 1 + 3 * gc) →
    ns = leAt b p 1 % 8 → ne = leAt b p 1 / 16 % 8 →
    (p + 1 + 2 * ns + 8 * ne ≤ b.length →
      let c : Content := .beacon (BitVec.ofNat 16 (leAt b (hdrLen f) 2)) (BitVec.ofNat 3 gc) (BitVec.ofNat 3 ns)
        (BitVec.ofNat 3 ne)
      exec (.frameBeacon f) s = .next { s with dp := { s.dp with
        derr := none, frame := recordOf b f c (b.drop (p + 1 + 2 * ns + 8 * ne)) } }) ∧
    (b.length < p + 1 + 2 * ns + 8 * ne → exec (.frameBeacon f) s = .next (failedWith s .truncated))

/-- 40_frame_codec.md R120 (derived; log 10): with the frame control field the receive buffer holds, a frame type row
leaves what DECODE leaves, and the rows before it the parts of DECODE's record. -/
def Obligations.DecodeClassesAgreeWithDecode : Prop :=
  ∀ (s : State) (b : List Byte) (f : Fcf), s.rxFrame = .ok b → readFcf b = .ok f →
    (f.ftype = 0 → exec (.frameBeacon f) s = exec .decode s) ∧
    (f.ftype = 1 → exec (.frameData f) s = exec .decode s) ∧
    (f.ftype = 2 → exec (.frameAck f) s = exec .decode s) ∧
    (f.ftype = 3 → exec (.frameCommand f) s = exec .decode s) ∧
    (∀ r i, decodeFrame b = .ok r → i = .srcNone f ∨ i = .srcShort f ∨ i = .srcExt f →
      ∃ t, exec i s = .next t ∧ t.dp.frame.seq = r.seq ∧ t.dp.frame.dst = r.dst ∧ t.dp.frame.src = r.src) ∧
    (∀ r i, decodeFrame b = .ok r → i = .dstNone f ∨ i = .dstShort f ∨ i = .dstExt f →
      ∃ t, exec i s = .next t ∧ t.dp.frame.seq = r.seq ∧ t.dp.frame.dst = r.dst ∧ t.dp.frame.src = s.dp.frame.src)

/-- 30_encoding.md R83, 40_frame_codec.md R124 (derived; logs 10 and 23): a command identifier gives the record the
content `COMMAND` of that identifier, whatever it is. -/
def Obligations.CommandIdentifiersGiveTheContent : Prop :=
  ∀ s : State,
    let r (cid : BitVec 8) : Frame := { s.dp.frame with ftype := 3, content := .command cid }
    exec .cmdBeaconRequest s = .next { s with dp := { s.dp with derr := none, frame := r 7 } } ∧
    ∀ cid, exec (.cmdOther cid) s = .next { s with dp := { s.dp with derr := none, frame := r cid } }

/-- 20_memory.md R56, R68 (derived; log 4): DECODE and the decode classes stop where the received bytes cannot be
read: a length past the buffer, a byte with no value. -/
def Obligations.UnreadableBytesStopTheDecoder : Prop :=
  ∀ (s : State) (e : Fault) (i : Instr) (f : Fcf), i = .decode ∨ i ∈ fcfRows f → s.rxFrame = .error e →
    exec i s = .fault e ∧
    (e = .offsetPastBuffer ↔ 125 < s.rxLen.toNat) ∧
    (e = .unspecifiedByte → ∃ a, a < s.rxLen.toNat ∧ bufRead s.rxBuf a = none)

/-! ## Radio port -/

/-- 45_interfaces.md R211 to R214 (derived; that an operand outside its range, or a command the FSM would not issue
then, is taken too is the model's choice, log 23): each command joins the command trace and writes nothing else. -/
def Obligations.RadioCommandsJoinTheTrace : Prop :=
  ∀ s : State,
    (∀ c, exec (.tune c) s = .next { s with rc := s.rc ++ [.tune c] }) ∧
    exec .rxStart s = .next { s with rc := s.rc ++ [.rxStart] } ∧
    exec .rxAbort s = .next { s with rc := s.rc ++ [.rxAbort] } ∧
    ∀ n, exec (.txStart n) s = .next { s with rc := s.rc ++ [.txStart n] }

/-- 45_interfaces.md R215, 20_memory.md R62 (1), R68 (derived; that the other offsets lose their values is the model's
reading, log 4): an enabled RX_OK hands over its bytes: the block reads exactly them, no other offset holds a value,
and only the response latch changes. -/
def Obligations.ReceivedFrameIsHandedOver : Prop :=
  ∀ (s : State) (bytes : List Byte), s.rxArmed = true → s.rxDonePending = false → bytes.length ≤ 125 →
    ∃ t, exec (.rxOk bytes) s = .next t ∧ t.rxFrame = .ok bytes ∧ t.rxLen.toNat = bytes.length ∧ t.rxKind = 0 ∧
      t.rxDonePending = true ∧ (∀ a, bytes.length ≤ a → bufRead t.rxBuf a = none) ∧
      t = { s with rxBuf := t.rxBuf, rxLen := t.rxLen, rxKind := 0, rxDonePending := true }

/-- 45_interfaces.md R216 to R219, 20_memory.md R68 (derived; the bytes' loss and the other fields' values are the
model's reading, logs 4 and 21): an enabled RX_CRC or RX_ERR latches its value, and the bytes of `rx_buf` hold no
value any more; an enabled TX_OK or TX_ERR latches its kind and value; the fields a response does not carry keep
theirs (10_state.md R27). -/
def Obligations.FaultAndTransmitResponsesAreLatched : Prop :=
  ∀ s : State,
    (s.rxArmed = true → s.rxDonePending = false →
      (∀ crc, exec (.rxCrc crc) s =
        .next { s with rxBuf := [], rxKind := 1, rxCrc := crc, rxDonePending := true }) ∧
      ∀ k, exec (.rxErr k) s = .next { s with rxBuf := [], rxKind := 2, rxErr := k, rxDonePending := true }) ∧
    (s.txInflight = true → s.txDonePending = false →
      exec .txOk s = .next { s with txKind := 3, txDonePending := true } ∧
      ∀ k, exec (.txErr k) s = .next { s with txKind := 4, txErr := k, txDonePending := true })

/-- 45_interfaces.md R230 (1), (2), (4), 93_implementation_defined.md #15 (derived): a response that is not enabled,
and a frame over 125 bytes, are no steps of the model. -/
def Obligations.DisabledResponsesAreRefused : Prop :=
  ∀ s : State,
    (s.rxArmed = false ∨ s.rxDonePending = true →
      (∀ b, exec (.rxOk b) s = .refused .rxResponseNotEnabled) ∧
      (∀ c, exec (.rxCrc c) s = .refused .rxResponseNotEnabled) ∧
      ∀ k, exec (.rxErr k) s = .refused .rxResponseNotEnabled) ∧
    (s.txInflight = false ∨ s.txDonePending = true →
      exec .txOk s = .refused .txResponseNotEnabled ∧ ∀ k, exec (.txErr k) s = .refused .txResponseNotEnabled) ∧
    (s.rxArmed = true → s.rxDonePending = false →
      ∀ b : List Byte, 125 < b.length → exec (.rxOk b) s = .refused .frameTooLong)

/-- 10_state.md R22; 30_encoding.md R89, R91, R93, R94; 45_interfaces.md R230 (3) (derived): the reserved rows stop:
state code 7 is a model fault, and the reserved codes of the response, event and operation formats are never sent,
emitted or used. -/
def Obligations.ReservedCodesStop : Prop :=
  ∀ s : State, exec .stReserved s = .fault .reservedState ∧
    (∀ k, exec (.rspReserved k) s = .refused .reservedResponse) ∧
    (∀ c, exec (.eventReserved c) s = .refused .reservedEvent) ∧
    exec .iopReserved7 s = .refused .reservedOperation ∧
    ∀ o, exec (.iopReserved8F o) s = .refused .reservedOperation

/-! ## Events -/

/-- 45_interfaces.md R223, 44_scan_loop.md R201, 30_encoding.md R90 (derived; log 12; that field values outside their
ranges are taken, and the record emitted at any `st`, are the model's choices, logs 23 and 24): each event transaction
appends one record with its fields, the channel `CURRENT()`, and every other field 0. -/
def Obligations.EventTransactionsAppendOneRecord : Prop :=
  ∀ (s : State) (c : BitVec 5),
    (∀ pan m a co jo, exec (.beaconObserved c pan m a co jo) s =
      .next { s with ev := s.ev ++ [{ code := .beaconObserved, chan := s.chan, seq := 0, v16 := pan, smode := m
                                      coord := co, join := jo, k8 := 0, saddr := a, raw := [] }] }) ∧
    (∀ k raw, exec (.decodeError c k raw) s =
      .next { s with ev := s.ev ++ [{ code := .decodeError, chan := s.chan, seq := 0, v16 := 0, smode := 0
                                      coord := false, join := false, k8 := k, saddr := 0, raw := raw }] }) ∧
    (∀ crc, exec (.linkQualityFault c crc) s =
      .next { s with ev := s.ev ++ [{ code := .linkQualityFault, chan := s.chan, seq := 0, v16 := crc, smode := 0
                                      coord := false, join := false, k8 := 0, saddr := 0, raw := [] }] }) ∧
    (∀ k, exec (.receiveFault c k) s =
      .next { s with ev := s.ev ++ [{ code := .receiveFault, chan := s.chan, seq := 0, v16 := 0, smode := 0
                                      coord := false, join := false, k8 := k, saddr := 0, raw := [] }] }) ∧
    (∀ q, exec (.requestSent c q) s =
      .next { s with ev := s.ev ++ [{ code := .requestSent, chan := s.chan, seq := q, v16 := 0, smode := 0
                                      coord := false, join := false, k8 := 0, saddr := 0, raw := [] }] }) ∧
    ∀ q k, exec (.transmitFault c q k) s =
      .next { s with ev := s.ev ++ [{ code := .transmitFault, chan := s.chan, seq := q, v16 := 0, smode := 0
                                      coord := false, join := false, k8 := k, saddr := 0, raw := [] }] }

/-! ## The scan loop -/

/-- 44_scan_loop.md R181, R182 (and R197, 45_interfaces.md R221 without their real time): the first tune after reset;
the top of an iteration arms a receive; the quiescent step writes `st` only; a tick writes the tick latch only. -/
def Obligations.InitIdleQuietAndTickTakeTheirStep : Prop :=
  ∀ s : State,
    exec .sInit s = .next { s with tuneCh := s.chan, rc := s.rc ++ [.tune s.chan], st := 1 } ∧
    exec .sIdle s = .next { s with rc := s.rc ++ [.rxStart], rxArmed := true, st := 2 } ∧
    exec .sQuiet s = .next { s with st := 1 } ∧
    exec .tick s = .next { s with tickPending := true }

/-- 44_scan_loop.md R180, R183, 60_exceptions.md R256 (derived; that a waiting FSM's turn leaves the state as it is,
log 8): with no latch set the race waits, and with no response the transmit does. -/
def Obligations.WaitingStatesHold : Prop :=
  ∀ s : State,
    (s.rxDonePending = false → s.tickPending = false → exec .sRacing s = .next s) ∧
    (s.txDonePending = false → exec .sHopTxwait s = .next s)

/-- 44_scan_loop.md R184, R185, R186: the race: one latch set wins; both set is decided by ARB_TIE, whichever it is; a
losing tick stays latched, a losing receive is discarded. -/
def Obligations.RaceHasExactlyOneWinner : Prop :=
  ∀ s : State,
    (s.rxDonePending = true → s.tickPending = false ∨ Config.arbTie = .rxFirst →
      exec .sRacing s = .next { s with rxArmed := false, st := 3 }) ∧
    (s.tickPending = true → s.rxDonePending = false ∨ Config.arbTie = .hopFirst →
      exec .sRacing s = .next { s with rc := s.rc ++ [.rxAbort], rxArmed := false, rxDonePending := false, tickPending := false, st := 4 })

/-- 44_scan_loop.md R187 to R192, with the codes of 30_encoding.md R92: S_RX reports a received frame's observation,
nothing for a frame that is none, the decode error with the raw bytes, the CRC value or the fault kind; it clears the
latch and goes to S_QUIET whatever the case. -/
def Obligations.ReceiveIsReportedByKind : Prop :=
  ∀ s : State,
    (∀ b f o, s.rxKind = 0 → s.rxFrame = .ok b → decodeFrame b = .ok f → classifyFrame f = some o →
      exec .sRx s = .next { s with rxDonePending := false, st := 6, ev := s.ev ++
        [{ code := .beaconObserved, chan := s.chan, v16 := o.pan, smode := o.smode, saddr := o.saddr
           coord := o.coord, join := o.join }] }) ∧
    (∀ b f, s.rxKind = 0 → s.rxFrame = .ok b → decodeFrame b = .ok f → classifyFrame f = none →
      exec .sRx s = .next { s with rxDonePending := false, st := 6 }) ∧
    (∀ b e k, s.rxKind = 0 → s.rxFrame = .ok b → decodeFrame b = .error e → (e, k) ∈ decodeErrorCodes →
      exec .sRx s = .next { s with rxDonePending := false, st := 6, ev := s.ev ++
        [{ code := .decodeError, chan := s.chan, k8 := k, raw := b }] }) ∧
    (s.rxKind = 1 → exec .sRx s = .next { s with rxDonePending := false, st := 6, ev := s.ev ++
        [{ code := .linkQualityFault, chan := s.chan, v16 := s.rxCrc }] }) ∧
    (s.rxKind = 2 → exec .sRx s = .next { s with rxDonePending := false, st := 6, ev := s.ev ++
        [{ code := .receiveFault, chan := s.chan, k8 := s.rxErr }] })

/-- 44_scan_loop.md R193: S_HOP_PREP advances the channel, puts the request of the current `seq` into `tx_buf`,
retunes and then transmits; nothing else changes. -/
def Obligations.HopPreparesTheRequest : Prop :=
  ∀ (s : State) (i : BitVec 4) (c : BitVec 5), i = BitVec.ofNat 4 ((s.chIdx.toNat + 1) % 16) →
    c = BitVec.ofNat 5 (11 + i.toNat) →
    ∃ t, exec .sHopPrep s = .next t ∧
      t.txFrame = some [0x03, 0x08, s.seq, 0xFF, 0xFF, 0xFF, 0xFF, 0x07] ∧
      (∀ a, 8 ≤ a → bufRead t.txBuf a = bufRead s.txBuf a) ∧
      t = { s with chIdx := i, tuneCh := c, txLen := 8, txBuf := t.txBuf, txInflight := true, st := 5, rc := s.rc ++ [.tune c, .txStart 8] }

/-- 44_scan_loop.md R194, R195, R196: S_HOP_TXWAIT reports the response and advances `seq` whatever it was. -/
def Obligations.TransmitResultIsReportedAndSeqAdvances : Prop :=
  ∀ s : State,
    (s.txDonePending = true → s.txKind = 3 →
      let e : Evt := { code := .requestSent, chan := s.chan, seq := s.seq }
      exec .sHopTxwait s = .next { s with txInflight := false, txDonePending := false, st := 6, ev := s.ev ++ [e], seq := BitVec.ofNat 8 ((s.seq.toNat + 1) % 256) }) ∧
    (s.txDonePending = true → s.txKind ≠ 3 →
      let e : Evt := { code := .transmitFault, chan := s.chan, seq := s.seq, k8 := s.txErr }
      exec .sHopTxwait s = .next { s with txInflight := false, txDonePending := false, st := 6, ev := s.ev ++ [e], seq := BitVec.ofNat 8 ((s.seq.toNat + 1) % 256) })

/-- 44_scan_loop.md R182 to R197, R199, 95_test_vectors.md L1.8 (derived): one whole hop, from a race no receive has
ended: the tick, the hop win, the request, its response, and the next receive. Exactly one report, the next channel,
the next sequence number. -/
def Obligations.OneHopIsOneReport : Prop :=
  ∀ (s : State) (i : BitVec 4) (c : BitVec 5), s.rxDonePending = false → s.txDonePending = false →
    i = BitVec.ofNat 4 ((s.chIdx.toNat + 1) % 16) → c = BitVec.ofNat 5 (11 + i.toNat) →
    ∃ t, execAll [.tick, .sRacing, .sHopPrep, .txOk, .sHopTxwait, .sQuiet, .sIdle] s = .next t ∧
      t.st = 2 ∧ t.chIdx = i ∧ t.tuneCh = c ∧ t.seq.toNat = (s.seq.toNat + 1) % 256 ∧
      t.tickPending = false ∧ t.rxArmed = true ∧ t.rxDonePending = false ∧ t.txInflight = false ∧
      t.txDonePending = false ∧
      t.ev = s.ev ++ [{ code := .requestSent, chan := c, seq := s.seq }] ∧
      t.rc = s.rc ++ [.rxAbort, .tune c, .txStart 8, .rxStart]

/-! ## The whole machine -/

/-- 00_scope.md R12, 10_state.md R21 (derived; the agenda is the model's, log 2): a step runs the decoded operation:
with nothing on the agenda, or the FSM's turn at its head, the one the state register selects; with a word at its
head, the one the word decodes to, the agenda moved past it. -/
def Obligations.StepRunsTheDecodedOperation : Prop :=
  (∀ (s : State) (i : Instr) (r : List Byte), s.agenda = [] → decode .fsmState s.stateWord = .ok (i, r) →
    i ≠ .stReserved → step s = exec i s) ∧
  (∀ (s : State) (i : Instr) (r : List Byte) (rest : List Item), s.agenda = .fsm :: rest →
    decode .fsmState s.stateWord = .ok (i, r) → i ≠ .stReserved → step s = exec i (s.setAgenda rest)) ∧
  (∀ (s : State) (i : Instr) (fmt : Format) (bytes r : List Byte) (rest : List Item),
    s.agenda = .op fmt bytes :: rest → s.st ≠ 7 → decode fmt bytes = .ok (i, r) →
    step s = exec i (s.setAgenda rest)) ∧
  (∀ s : State, s.st = 7 → s.nextIsNoReset = true → step s = .fault .reservedState)

/-- 70_reset_and_hazards.md R260 (derived; the values the spec leaves unspecified are not stated; that the agenda goes
on is the model's choice, log 2): what reset leaves, applied in any state, whatever it was doing. -/
def Obligations.ResetSetsTheSpecifiedValues : Prop :=
  ∀ (s : State) (rest : List Item), s.agenda = .reset :: rest →
    ∃ t, step s = .next t ∧ t.st = 0 ∧ t.chIdx = 0 ∧ t.seq = 0 ∧ t.tickPending = false ∧ t.rxArmed = false ∧
      t.rxDonePending = false ∧ t.txInflight = false ∧ t.txDonePending = false ∧ t.ev = [] ∧ t.rc = [] ∧
      t.agenda = rest

/-- 10_state.md R42 (derived): the invariants hold at reset. -/
def Obligations.ScanInvariantsHoldAtReset : Prop := ScanInv State.reset

/-- 10_state.md R22, R30, R42; 20_memory.md R60, R61, R62 (derived): every step of every agent keeps the invariants of
the step boundary, from every state that has them. -/
def Obligations.StepKeepsTheScanInvariants : Prop :=
  ∀ s t : State, ScanInv s → step s = .next t → ScanInv t

/-- 44_scan_loop.md R198, 60_exceptions.md R240, R244; 20_memory.md R56, R68 (derived): no state that has the
invariants faults: the loop has no exit, state code 7 is not reached, no byte past a buffer or without a value is
read. -/
def Obligations.NoFaultUnderTheScanInvariants : Prop := ∀ s : State, ScanInv s → NoFault (step s)

/-- 30_encoding.md R99, 90_conflicts.md C8 (derived): `run` always stops: under the invariants the FSM reaches, within
six of its own steps, a state in which it waits. -/
def Obligations.RunStopsWithinSixSteps : Prop :=
  ∀ s : State, ScanInv s → ∃ k, k ≤ 6 ∧ ∃ t, fsmSteps k s = .next t ∧ t.fsmEnabled = false

/-- 44_scan_loop.md R203: every FSM transition of an enabled FSM is a row of the table, with its commands and its
event. -/
def Obligations.FsmTransitionsAreTheTable : Prop :=
  ∀ s t : State, ScanInv s → s.fsmEnabled = true → fsmMove s = .next t →
    (s.st = stInit ∧ t.st = stIdle ∧ t.rc = s.rc ++ [.tune s.chan] ∧ t.ev = s.ev) ∨
    (s.st = stIdle ∧ t.st = stRacing ∧ t.rc = s.rc ++ [.rxStart] ∧ t.ev = s.ev) ∨
    (s.st = stRacing ∧ raceWinner Config.arbTie s.rxDonePending s.tickPending = some .rx ∧ t.st = stRx ∧
      t.rc = s.rc ∧ t.ev = s.ev) ∨
    (s.st = stRacing ∧ raceWinner Config.arbTie s.rxDonePending s.tickPending = some .hop ∧ t.st = stHopPrep ∧
      t.rc = s.rc ++ [.rxAbort] ∧ t.ev = s.ev) ∨
    (s.st = stRx ∧ t.st = stQuiet ∧ t.rc = s.rc ∧
      ((∃ b f o, s.rxKind = kindRxOk ∧ s.rxFrame = .ok b ∧ decodeFrame b = .ok f ∧ classifyFrame f = some o ∧
          t.ev = s.ev ++ [{ code := .beaconObserved, chan := s.chan, v16 := o.pan, smode := o.smode
                            saddr := o.saddr, coord := o.coord, join := o.join }]) ∨
       (∃ b f, s.rxKind = kindRxOk ∧ s.rxFrame = .ok b ∧ decodeFrame b = .ok f ∧ classifyFrame f = none ∧
          t.ev = s.ev) ∨
       (∃ b e k, s.rxKind = kindRxOk ∧ s.rxFrame = .ok b ∧ decodeFrame b = .error e ∧ (e, k) ∈ decodeErrorCodes ∧
          t.ev = s.ev ++ [{ code := .decodeError, chan := s.chan, k8 := k, raw := b }]) ∨
       (s.rxKind = kindRxCrc ∧
          t.ev = s.ev ++ [{ code := .linkQualityFault, chan := s.chan, v16 := s.rxCrc }]) ∨
       (s.rxKind = kindRxErr ∧ t.ev = s.ev ++ [{ code := .receiveFault, chan := s.chan, k8 := s.rxErr }]))) ∨
    (s.st = stHopPrep ∧ t.st = stHopTxwait ∧ t.rc = s.rc ++ [.tune t.chan, .txStart 8] ∧ t.ev = s.ev) ∨
    (s.st = stHopTxwait ∧ t.st = stQuiet ∧ t.rc = s.rc ∧
      ((s.txKind = kindTxOk ∧ t.ev = s.ev ++ [{ code := .requestSent, chan := s.chan, seq := s.seq }]) ∨
       (s.txKind = kindTxErr ∧
          t.ev = s.ev ++ [{ code := .transmitFault, chan := s.chan, seq := s.seq, k8 := s.txErr }]))) ∨
    (s.st = stQuiet ∧ t.st = stIdle ∧ t.rc = s.rc ∧ t.ev = s.ev)

/-- 10_state.md R38, R39; 44_scan_loop.md R199, R201; 45_interfaces.md R225 (derived): no step but reset takes
anything from the traces; an agent's step appends at most one record, and its channel is `CURRENT()`. -/
def Obligations.TracesOnlyGrow : Prop :=
  ∀ s t : State, s.nextIsNoReset = true → step s = .next t →
    (∃ cs, t.rc = s.rc ++ cs ∧ cs.length ≤ 2) ∧
    ∃ es, t.ev = s.ev ++ es ∧ es.length ≤ 1 ∧ ∀ e ∈ es, e.chan = s.chan

/-- 10_state.md R34, 44_scan_loop.md R202, 45_interfaces.md R230 (5), (6) (derived): the collaborators' steps write
the response latches, `rx_buf` and the tick latch, and nothing else. -/
def Obligations.CollaboratorsWriteOnlyTheLatches : Prop :=
  ∀ (s t : State) (fmt : Format) (bytes : List Byte), (Item.op fmt bytes).isAgent = true →
    runWord fmt bytes s = .next t → SameButLatches s t

/-- 10_state.md R23, R24, R25 (derived): in an agent's step other than reset, `seq` changes only in S_HOP_TXWAIT and
by one, `ch_idx` only in S_HOP_PREP and by one, and the tick latch is set only by TICK and cleared only by a hop
win. -/
def Obligations.CountersAndTickChangeOnlyWhereTheRulesSay : Prop :=
  ∀ s t : State, s.nextIsAgent = true → s.nextIsNoReset = true → step s = .next t →
    (t.seq = s.seq ∨ (s.st = stHopTxwait ∧ t.st = stQuiet ∧ t.seq = s.seq + 1)) ∧
    (t.chIdx = s.chIdx ∨ (s.st = stHopPrep ∧ t.st = stHopTxwait ∧ t.chIdx = s.chIdx + 1)) ∧
    (s.tickPending = true → t.tickPending = false → s.st = stRacing ∧ t.st = stHopPrep) ∧
    (s.tickPending = false → t.tickPending = true →
      ∃ bytes rest, s.agenda = .op .internalOp (6 :: bytes) :: rest)

/-- 44_scan_loop.md R193, R196, R199 (derived): two counts every agent's step keeps: `seq` is the number of transmit
reports of the event trace, mod 256, and `ch_idx` the number of TX_START commands of the command trace, mod 16. -/
def Obligations.CountersFollowTheTraces : Prop :=
  (State.reset.seq.toNat = txReports State.reset.ev % 256 ∧ State.reset.chIdx.toNat = txStarts State.reset.rc % 16) ∧
  ∀ s t : State, s.nextIsAgent = true → s.seq.toNat = txReports s.ev % 256 →
    s.chIdx.toNat = txStarts s.rc % 16 → step s = .next t →
    t.seq.toNat = txReports t.ev % 256 ∧ t.chIdx.toNat = txStarts t.rc % 16

/-- 10_state.md R40 (derived; the datapath field is the model's, log 1): the transient values exist for no later step:
an agent's step is the same whatever the datapath holds. -/
def Obligations.NoAgentReadsTheDatapath : Prop :=
  ∀ (s : State) (d : Datapath), s.nextIsAgent = true →
    withDp Datapath.reset (step (s.setDp d)) = withDp Datapath.reset (step s)

/-- 44_scan_loop.md R198, 45_interfaces.md R231 (derived): no terminal state: in every fair run the FSM comes back to
the top of the loop again and again, whatever ARB_TIE is. -/
def Obligations.FairRunsComeBackToIdle : Prop :=
  ∀ (σ : Nat → State) (α : Nat → Item), FairRun σ α → ∀ n, ∃ m, n ≤ m ∧ (σ m).st = stIdle

/-- 70_reset_and_hazards.md R275, R277; 44_scan_loop.md R184; 45_interfaces.md R231 (derived): in every fair run,
again and again, either a hop happens or, under RX_FIRST, a completed receive wins a race in which a tick is latched
too: nothing else can hold a hop up for ever, and under HOP_FIRST nothing at all. -/
def Obligations.OnlyReceivesUnderRxFirstHoldUpHops : Prop :=
  ∀ (σ : Nat → State) (α : Nat → Item), FairRun σ α → ∀ n, ∃ m, n ≤ m ∧
    ((σ m).st = stHopPrep ∨
      (Config.arbTie = .rxFirst ∧ (σ m).st = stRacing ∧ (σ m).rxDonePending = true ∧ (σ m).tickPending = true ∧
        (σ (m + 1)).st = stRx ∧ (σ (m + 1)).tickPending = true))

/-- 70_reset_and_hazards.md R263, R274; 60_exceptions.md R252 (derived; the clock is the timed reading's, log 16): in
a timed schedule from reset the k-th tick has happened by `T0 + k * HOP_PERIOD` and the next is not overdue, and there
are at most as many hops as ticks. -/
def Obligations.TimedTicksBoundTheHops : Prop :=
  ∀ (l : List (Nat × Item)) (c : Clock) (t : State), (∀ x ∈ l, x.2.isAgent = true) →
    timedRun { now := 0, t0 := 0, ticks := 0, quietAt := 0 } State.reset l = some (c, t) →
    c.t0 + c.ticks * Config.hopPeriod ≤ c.now ∧ c.now ≤ c.due ∧
    t.rc.count .rxAbort + t.tickPending.toNat ≤ c.ticks
end

