-- ==== Sys2Proof/Laws/Memory.lean ====
section
/-! SUPPORT. The buffers: read after write, bytes read back, and the canonical form, which every operation keeps. -/

namespace Sys2Proof.Machine

/-! ## One byte -/

@[simp] theorem bufRead_nil (a : Nat) : bufRead [] a = none := rfl

theorem bufRead_cons (k : Nat) (v : Byte) (m : Memory) (a : Nat) :
    bufRead ((k, v) :: m) a = if k = a then some v else bufRead m a := rfl

/-- A byte reads as it was written. -/
@[simp] theorem bufRead_bufWrite_same (m : Memory) (a : Nat) (v : Byte) : bufRead (bufWrite m a v) a = some v := by
  induction m with
  | nil => simp [bufWrite, bufRead]
  | cons c m ih =>
    obtain ⟨k, w⟩ := c
    simp only [bufWrite]
    split
    · simp [bufRead]
    · split
      · simp [bufRead]
      · simp only [bufRead, ih, ite_eq_right_iff]
        omega

/-- A write leaves every other byte alone. -/
theorem bufRead_bufWrite_other (m : Memory) (a b : Nat) (v : Byte) (h : b ≠ a) :
    bufRead (bufWrite m a v) b = bufRead m b := by
  induction m with
  | nil => simp [bufWrite, bufRead, Ne.symm h]
  | cons c m ih =>
    obtain ⟨k, w⟩ := c
    simp only [bufWrite]
    split
    · simp [bufRead, Ne.symm h]
    · split
      · subst_vars
        simp [bufRead, Ne.symm h]
      · simp [bufRead, ih]

/-! ## Several bytes -/

/-- Bytes below the written range are unchanged. -/
theorem bufRead_bufWriteBytes_below (bs : List Byte) (m : Memory) (a b : Nat) (h : b < a) :
    bufRead (bufWriteBytes m a bs) b = bufRead m b := by
  induction bs generalizing m a with
  | nil => rfl
  | cons v bs ih =>
    simp only [bufWriteBytes]
    rw [ih _ _ (by omega), bufRead_bufWrite_other _ _ _ _ (by omega)]

/-- Bytes above the written range are unchanged. -/
theorem bufRead_bufWriteBytes_above (bs : List Byte) (m : Memory) (a b : Nat) (h : a + bs.length ≤ b) :
    bufRead (bufWriteBytes m a bs) b = bufRead m b := by
  induction bs generalizing m a with
  | nil => rfl
  | cons v bs ih =>
    simp only [List.length_cons] at h
    simp only [bufWriteBytes]
    rw [ih _ _ (by omega), bufRead_bufWrite_other _ _ _ _ (by omega)]

/-- A byte of the written range is the byte written there. -/
theorem bufRead_bufWriteBytes_inside (bs : List Byte) (m : Memory) (a i : Nat) (h : i < bs.length) :
    bufRead (bufWriteBytes m a bs) (a + i) = some bs[i] := by
  induction bs generalizing m a i with
  | nil => simp at h
  | cons v bs ih =>
    simp only [bufWriteBytes]
    cases i with
    | zero => rw [Nat.add_zero, bufRead_bufWriteBytes_below _ _ _ _ (by omega)]; simp
    | succ i =>
      have h' : i < bs.length := by simpa using h
      have := ih (bufWrite m a v) (a + 1) i h'
      rw [show a + 1 + i = a + (i + 1) by omega] at this
      simpa using this

/-- The bytes written are the bytes read back (20_memory.md R62). -/
theorem bufReadBytes_bufWriteBytes (bs : List Byte) (m : Memory) (a : Nat) :
    bufReadBytes (bufWriteBytes m a bs) a bs.length = some bs := by
  induction bs generalizing m a with
  | nil => rfl
  | cons v bs ih =>
    have h0 := bufRead_bufWriteBytes_inside (v :: bs) m a 0 (by simp)
    simp only [Nat.add_zero, List.getElem_cons_zero] at h0
    simp only [List.length_cons, bufReadBytes, h0]
    simp only [bufWriteBytes, ih, Option.map_some]

/-- A read of `n` bytes answers `n` bytes. -/
theorem length_of_bufReadBytes {m : Memory} {a n : Nat} {bs : List Byte} (h : bufReadBytes m a n = some bs) :
    bs.length = n := by
  induction n generalizing a bs with
  | zero => simp [bufReadBytes] at h; simp [← h]
  | succ n ih =>
    simp only [bufReadBytes] at h
    split at h
    · cases h
    · cases hr : bufReadBytes m (a + 1) n with
      | none => simp [hr] at h
      | some cs =>
        simp only [hr, Option.map_some, Option.some.injEq] at h
        simp [← h, ih hr]

/-! ## The canonical form -/

/-- A rising list rises from any smaller offset too. -/
theorem memoryRises_mono {lo lo' : Nat} {m : Memory} (h : memoryRises lo m = true) (hle : lo' ≤ lo) :
    memoryRises lo' m = true := by
  cases m with
  | nil => rfl
  | cons c m =>
    obtain ⟨k, v⟩ := c
    simp only [memoryRises, Bool.and_eq_true, decide_eq_true_eq] at h ⊢
    exact ⟨⟨by omega, h.1.2⟩, h.2⟩

/-- A write inside the buffer keeps the offsets rising. -/
theorem memoryRises_bufWrite {lo : Nat} {m : Memory} {a : Nat} (v : Byte) (h : memoryRises lo m = true)
    (hlo : lo ≤ a) (ha : a < Config.maxFrameLen) : memoryRises lo (bufWrite m a v) = true := by
  induction m generalizing lo with
  | nil => simp [bufWrite, memoryRises, hlo, ha]
  | cons c m ih =>
    obtain ⟨k, w⟩ := c
    simp only [memoryRises, Bool.and_eq_true, decide_eq_true_eq] at h
    simp only [bufWrite]
    split
    · simp only [memoryRises, Bool.and_eq_true, decide_eq_true_eq]
      exact ⟨⟨hlo, ha⟩, ⟨by omega, h.1.2⟩, h.2⟩
    · split
      · subst_vars
        simp only [memoryRises, Bool.and_eq_true, decide_eq_true_eq]
        exact ⟨⟨hlo, ha⟩, h.2⟩
      · simp only [memoryRises, Bool.and_eq_true, decide_eq_true_eq]
        exact ⟨h.1, ih h.2 (by omega)⟩

/-- Writes inside the buffer keep the canonical form. -/
theorem wf_bufWriteBytes (bs : List Byte) {m : Memory} {a : Nat} (h : Memory.wf m = true)
    (ha : a + bs.length ≤ Config.maxFrameLen) : Memory.wf (bufWriteBytes m a bs) = true := by
  induction bs generalizing m a with
  | nil => exact h
  | cons v bs ih =>
    simp only [List.length_cons] at ha
    exact ih (memoryRises_bufWrite v h (Nat.zero_le a) (by omega)) (by omega)

/-- The empty buffer, reset's, is in canonical form. -/
theorem wf_nil : Memory.wf [] = true := rfl

/-- An offset below all listed ones holds no value. -/
theorem bufRead_eq_none_of_rises {lo : Nat} {m : Memory} (h : memoryRises lo m = true) {a : Nat} (ha : a < lo) :
    bufRead m a = none := by
  induction m generalizing lo with
  | nil => rfl
  | cons c m ih =>
    obtain ⟨k, v⟩ := c
    simp only [memoryRises, Bool.and_eq_true, decide_eq_true_eq] at h
    simp only [bufRead]
    rw [if_neg (by omega), ih h.2 (by omega)]

/-- An offset past the buffer holds no value (20_memory.md R50). -/
theorem bufRead_past_buffer {lo : Nat} {m : Memory} (h : memoryRises lo m = true) {a : Nat}
    (ha : Config.maxFrameLen ≤ a) : bufRead m a = none := by
  induction m generalizing lo with
  | nil => rfl
  | cons c m ih =>
    obtain ⟨k, v⟩ := c
    simp only [memoryRises, Bool.and_eq_true, decide_eq_true_eq] at h
    simp only [bufRead]
    rw [if_neg (by omega), ih h.2]

/-- The form is canonical: buffers that read alike are equal. -/
theorem memory_ext {lo : Nat} {m m' : Memory} (h : memoryRises lo m = true) (h' : memoryRises lo m' = true)
    (hr : ∀ a, bufRead m a = bufRead m' a) : m = m' := by
  induction m generalizing lo m' with
  | nil =>
    cases m' with
    | nil => rfl
    | cons c m' => have := hr c.1; simp [bufRead] at this
  | cons c m ih =>
    obtain ⟨k, v⟩ := c
    cases m' with
    | nil => have := hr k; simp [bufRead] at this
    | cons c' m' =>
      obtain ⟨k', v'⟩ := c'
      simp only [memoryRises, Bool.and_eq_true, decide_eq_true_eq] at h h'
      have hk : k = k' := by
        rcases Nat.lt_trichotomy k k' with hlt | heq | hgt
        · have := hr k
          rw [bufRead_cons, bufRead_cons, if_pos rfl, if_neg (by omega),
            bufRead_eq_none_of_rises h'.2 (by omega)] at this
          cases this
        · exact heq
        · have := hr k'
          rw [bufRead_cons, bufRead_cons, if_pos rfl, if_neg (by omega),
            bufRead_eq_none_of_rises h.2 (by omega)] at this
          cases this
      subst hk
      have hv : v = v' := by simpa [bufRead] using hr k
      subst hv
      congr 1
      refine ih h.2 h'.2 fun a => ?_
      by_cases hak : a = k
      · subst hak
        rw [bufRead_eq_none_of_rises h.2 (by omega), bufRead_eq_none_of_rises h'.2 (by omega)]
      · simpa [bufRead_cons, Ne.symm hak] using hr a

end Sys2Proof.Machine
end

