-- ==== Sys2Proof/Laws/State.lean ====
section
/-! SUPPORT. One lemma per field per named update of State, each true by rfl and a simp lemma, so that no later proof
unfolds a record update. -/

namespace Sys2Proof.Machine

variable (s : State)

/-! ## goto -/

@[simp] theorem State.goto_st (x : BitVec 3) : (s.goto x).st = x := rfl
@[simp] theorem State.goto_chIdx (x : BitVec 3) : (s.goto x).chIdx = s.chIdx := rfl
@[simp] theorem State.goto_seq (x : BitVec 3) : (s.goto x).seq = s.seq := rfl
@[simp] theorem State.goto_tickPending (x : BitVec 3) : (s.goto x).tickPending = s.tickPending := rfl
@[simp] theorem State.goto_rxArmed (x : BitVec 3) : (s.goto x).rxArmed = s.rxArmed := rfl
@[simp] theorem State.goto_rxDonePending (x : BitVec 3) : (s.goto x).rxDonePending = s.rxDonePending := rfl
@[simp] theorem State.goto_rxKind (x : BitVec 3) : (s.goto x).rxKind = s.rxKind := rfl
@[simp] theorem State.goto_rxLen (x : BitVec 3) : (s.goto x).rxLen = s.rxLen := rfl
@[simp] theorem State.goto_rxCrc (x : BitVec 3) : (s.goto x).rxCrc = s.rxCrc := rfl
@[simp] theorem State.goto_rxErr (x : BitVec 3) : (s.goto x).rxErr = s.rxErr := rfl
@[simp] theorem State.goto_txInflight (x : BitVec 3) : (s.goto x).txInflight = s.txInflight := rfl
@[simp] theorem State.goto_txDonePending (x : BitVec 3) : (s.goto x).txDonePending = s.txDonePending := rfl
@[simp] theorem State.goto_txKind (x : BitVec 3) : (s.goto x).txKind = s.txKind := rfl
@[simp] theorem State.goto_txErr (x : BitVec 3) : (s.goto x).txErr = s.txErr := rfl
@[simp] theorem State.goto_tuneCh (x : BitVec 3) : (s.goto x).tuneCh = s.tuneCh := rfl
@[simp] theorem State.goto_txBuf (x : BitVec 3) : (s.goto x).txBuf = s.txBuf := rfl
@[simp] theorem State.goto_txLen (x : BitVec 3) : (s.goto x).txLen = s.txLen := rfl
@[simp] theorem State.goto_rxBuf (x : BitVec 3) : (s.goto x).rxBuf = s.rxBuf := rfl
@[simp] theorem State.goto_ev (x : BitVec 3) : (s.goto x).ev = s.ev := rfl
@[simp] theorem State.goto_rc (x : BitVec 3) : (s.goto x).rc = s.rc := rfl
@[simp] theorem State.goto_dp (x : BitVec 3) : (s.goto x).dp = s.dp := rfl
@[simp] theorem State.goto_agenda (x : BitVec 3) : (s.goto x).agenda = s.agenda := rfl

/-! ## emit -/

@[simp] theorem State.emit_st (e : Evt) : (s.emit e).st = s.st := rfl
@[simp] theorem State.emit_chIdx (e : Evt) : (s.emit e).chIdx = s.chIdx := rfl
@[simp] theorem State.emit_seq (e : Evt) : (s.emit e).seq = s.seq := rfl
@[simp] theorem State.emit_tickPending (e : Evt) : (s.emit e).tickPending = s.tickPending := rfl
@[simp] theorem State.emit_rxArmed (e : Evt) : (s.emit e).rxArmed = s.rxArmed := rfl
@[simp] theorem State.emit_rxDonePending (e : Evt) : (s.emit e).rxDonePending = s.rxDonePending := rfl
@[simp] theorem State.emit_rxKind (e : Evt) : (s.emit e).rxKind = s.rxKind := rfl
@[simp] theorem State.emit_rxLen (e : Evt) : (s.emit e).rxLen = s.rxLen := rfl
@[simp] theorem State.emit_rxCrc (e : Evt) : (s.emit e).rxCrc = s.rxCrc := rfl
@[simp] theorem State.emit_rxErr (e : Evt) : (s.emit e).rxErr = s.rxErr := rfl
@[simp] theorem State.emit_txInflight (e : Evt) : (s.emit e).txInflight = s.txInflight := rfl
@[simp] theorem State.emit_txDonePending (e : Evt) : (s.emit e).txDonePending = s.txDonePending := rfl
@[simp] theorem State.emit_txKind (e : Evt) : (s.emit e).txKind = s.txKind := rfl
@[simp] theorem State.emit_txErr (e : Evt) : (s.emit e).txErr = s.txErr := rfl
@[simp] theorem State.emit_tuneCh (e : Evt) : (s.emit e).tuneCh = s.tuneCh := rfl
@[simp] theorem State.emit_txBuf (e : Evt) : (s.emit e).txBuf = s.txBuf := rfl
@[simp] theorem State.emit_txLen (e : Evt) : (s.emit e).txLen = s.txLen := rfl
@[simp] theorem State.emit_rxBuf (e : Evt) : (s.emit e).rxBuf = s.rxBuf := rfl
@[simp] theorem State.emit_ev (e : Evt) : (s.emit e).ev = s.ev ++ [e] := rfl
@[simp] theorem State.emit_rc (e : Evt) : (s.emit e).rc = s.rc := rfl
@[simp] theorem State.emit_dp (e : Evt) : (s.emit e).dp = s.dp := rfl
@[simp] theorem State.emit_agenda (e : Evt) : (s.emit e).agenda = s.agenda := rfl

/-! ## emitOpt -/

@[simp] theorem State.emitOpt_st (e : Option Evt) : (s.emitOpt e).st = s.st := rfl
@[simp] theorem State.emitOpt_chIdx (e : Option Evt) : (s.emitOpt e).chIdx = s.chIdx := rfl
@[simp] theorem State.emitOpt_seq (e : Option Evt) : (s.emitOpt e).seq = s.seq := rfl
@[simp] theorem State.emitOpt_tickPending (e : Option Evt) : (s.emitOpt e).tickPending = s.tickPending := rfl
@[simp] theorem State.emitOpt_rxArmed (e : Option Evt) : (s.emitOpt e).rxArmed = s.rxArmed := rfl
@[simp] theorem State.emitOpt_rxDonePending (e : Option Evt) : (s.emitOpt e).rxDonePending = s.rxDonePending := rfl
@[simp] theorem State.emitOpt_rxKind (e : Option Evt) : (s.emitOpt e).rxKind = s.rxKind := rfl
@[simp] theorem State.emitOpt_rxLen (e : Option Evt) : (s.emitOpt e).rxLen = s.rxLen := rfl
@[simp] theorem State.emitOpt_rxCrc (e : Option Evt) : (s.emitOpt e).rxCrc = s.rxCrc := rfl
@[simp] theorem State.emitOpt_rxErr (e : Option Evt) : (s.emitOpt e).rxErr = s.rxErr := rfl
@[simp] theorem State.emitOpt_txInflight (e : Option Evt) : (s.emitOpt e).txInflight = s.txInflight := rfl
@[simp] theorem State.emitOpt_txDonePending (e : Option Evt) : (s.emitOpt e).txDonePending = s.txDonePending := rfl
@[simp] theorem State.emitOpt_txKind (e : Option Evt) : (s.emitOpt e).txKind = s.txKind := rfl
@[simp] theorem State.emitOpt_txErr (e : Option Evt) : (s.emitOpt e).txErr = s.txErr := rfl
@[simp] theorem State.emitOpt_tuneCh (e : Option Evt) : (s.emitOpt e).tuneCh = s.tuneCh := rfl
@[simp] theorem State.emitOpt_txBuf (e : Option Evt) : (s.emitOpt e).txBuf = s.txBuf := rfl
@[simp] theorem State.emitOpt_txLen (e : Option Evt) : (s.emitOpt e).txLen = s.txLen := rfl
@[simp] theorem State.emitOpt_rxBuf (e : Option Evt) : (s.emitOpt e).rxBuf = s.rxBuf := rfl
@[simp] theorem State.emitOpt_ev (e : Option Evt) : (s.emitOpt e).ev = s.ev ++ e.toList := rfl
@[simp] theorem State.emitOpt_rc (e : Option Evt) : (s.emitOpt e).rc = s.rc := rfl
@[simp] theorem State.emitOpt_dp (e : Option Evt) : (s.emitOpt e).dp = s.dp := rfl
@[simp] theorem State.emitOpt_agenda (e : Option Evt) : (s.emitOpt e).agenda = s.agenda := rfl

/-! ## radio -/

@[simp] theorem State.radio_st (c : Rcmd) : (s.radio c).st = s.st := rfl
@[simp] theorem State.radio_chIdx (c : Rcmd) : (s.radio c).chIdx = s.chIdx := rfl
@[simp] theorem State.radio_seq (c : Rcmd) : (s.radio c).seq = s.seq := rfl
@[simp] theorem State.radio_tickPending (c : Rcmd) : (s.radio c).tickPending = s.tickPending := rfl
@[simp] theorem State.radio_rxArmed (c : Rcmd) : (s.radio c).rxArmed = s.rxArmed := rfl
@[simp] theorem State.radio_rxDonePending (c : Rcmd) : (s.radio c).rxDonePending = s.rxDonePending := rfl
@[simp] theorem State.radio_rxKind (c : Rcmd) : (s.radio c).rxKind = s.rxKind := rfl
@[simp] theorem State.radio_rxLen (c : Rcmd) : (s.radio c).rxLen = s.rxLen := rfl
@[simp] theorem State.radio_rxCrc (c : Rcmd) : (s.radio c).rxCrc = s.rxCrc := rfl
@[simp] theorem State.radio_rxErr (c : Rcmd) : (s.radio c).rxErr = s.rxErr := rfl
@[simp] theorem State.radio_txInflight (c : Rcmd) : (s.radio c).txInflight = s.txInflight := rfl
@[simp] theorem State.radio_txDonePending (c : Rcmd) : (s.radio c).txDonePending = s.txDonePending := rfl
@[simp] theorem State.radio_txKind (c : Rcmd) : (s.radio c).txKind = s.txKind := rfl
@[simp] theorem State.radio_txErr (c : Rcmd) : (s.radio c).txErr = s.txErr := rfl
@[simp] theorem State.radio_tuneCh (c : Rcmd) : (s.radio c).tuneCh = s.tuneCh := rfl
@[simp] theorem State.radio_txBuf (c : Rcmd) : (s.radio c).txBuf = s.txBuf := rfl
@[simp] theorem State.radio_txLen (c : Rcmd) : (s.radio c).txLen = s.txLen := rfl
@[simp] theorem State.radio_rxBuf (c : Rcmd) : (s.radio c).rxBuf = s.rxBuf := rfl
@[simp] theorem State.radio_ev (c : Rcmd) : (s.radio c).ev = s.ev := rfl
@[simp] theorem State.radio_rc (c : Rcmd) : (s.radio c).rc = s.rc ++ [c] := rfl
@[simp] theorem State.radio_dp (c : Rcmd) : (s.radio c).dp = s.dp := rfl
@[simp] theorem State.radio_agenda (c : Rcmd) : (s.radio c).agenda = s.agenda := rfl

/-! ## setTick -/

@[simp] theorem State.setTick_st (b : Bool) : (s.setTick b).st = s.st := rfl
@[simp] theorem State.setTick_chIdx (b : Bool) : (s.setTick b).chIdx = s.chIdx := rfl
@[simp] theorem State.setTick_seq (b : Bool) : (s.setTick b).seq = s.seq := rfl
@[simp] theorem State.setTick_tickPending (b : Bool) : (s.setTick b).tickPending = b := rfl
@[simp] theorem State.setTick_rxArmed (b : Bool) : (s.setTick b).rxArmed = s.rxArmed := rfl
@[simp] theorem State.setTick_rxDonePending (b : Bool) : (s.setTick b).rxDonePending = s.rxDonePending := rfl
@[simp] theorem State.setTick_rxKind (b : Bool) : (s.setTick b).rxKind = s.rxKind := rfl
@[simp] theorem State.setTick_rxLen (b : Bool) : (s.setTick b).rxLen = s.rxLen := rfl
@[simp] theorem State.setTick_rxCrc (b : Bool) : (s.setTick b).rxCrc = s.rxCrc := rfl
@[simp] theorem State.setTick_rxErr (b : Bool) : (s.setTick b).rxErr = s.rxErr := rfl
@[simp] theorem State.setTick_txInflight (b : Bool) : (s.setTick b).txInflight = s.txInflight := rfl
@[simp] theorem State.setTick_txDonePending (b : Bool) : (s.setTick b).txDonePending = s.txDonePending := rfl
@[simp] theorem State.setTick_txKind (b : Bool) : (s.setTick b).txKind = s.txKind := rfl
@[simp] theorem State.setTick_txErr (b : Bool) : (s.setTick b).txErr = s.txErr := rfl
@[simp] theorem State.setTick_tuneCh (b : Bool) : (s.setTick b).tuneCh = s.tuneCh := rfl
@[simp] theorem State.setTick_txBuf (b : Bool) : (s.setTick b).txBuf = s.txBuf := rfl
@[simp] theorem State.setTick_txLen (b : Bool) : (s.setTick b).txLen = s.txLen := rfl
@[simp] theorem State.setTick_rxBuf (b : Bool) : (s.setTick b).rxBuf = s.rxBuf := rfl
@[simp] theorem State.setTick_ev (b : Bool) : (s.setTick b).ev = s.ev := rfl
@[simp] theorem State.setTick_rc (b : Bool) : (s.setTick b).rc = s.rc := rfl
@[simp] theorem State.setTick_dp (b : Bool) : (s.setTick b).dp = s.dp := rfl
@[simp] theorem State.setTick_agenda (b : Bool) : (s.setTick b).agenda = s.agenda := rfl

/-! ## setRxArmed -/

@[simp] theorem State.setRxArmed_st (b : Bool) : (s.setRxArmed b).st = s.st := rfl
@[simp] theorem State.setRxArmed_chIdx (b : Bool) : (s.setRxArmed b).chIdx = s.chIdx := rfl
@[simp] theorem State.setRxArmed_seq (b : Bool) : (s.setRxArmed b).seq = s.seq := rfl
@[simp] theorem State.setRxArmed_tickPending (b : Bool) : (s.setRxArmed b).tickPending = s.tickPending := rfl
@[simp] theorem State.setRxArmed_rxArmed (b : Bool) : (s.setRxArmed b).rxArmed = b := rfl
@[simp] theorem State.setRxArmed_rxDonePending (b : Bool) : (s.setRxArmed b).rxDonePending = s.rxDonePending := rfl
@[simp] theorem State.setRxArmed_rxKind (b : Bool) : (s.setRxArmed b).rxKind = s.rxKind := rfl
@[simp] theorem State.setRxArmed_rxLen (b : Bool) : (s.setRxArmed b).rxLen = s.rxLen := rfl
@[simp] theorem State.setRxArmed_rxCrc (b : Bool) : (s.setRxArmed b).rxCrc = s.rxCrc := rfl
@[simp] theorem State.setRxArmed_rxErr (b : Bool) : (s.setRxArmed b).rxErr = s.rxErr := rfl
@[simp] theorem State.setRxArmed_txInflight (b : Bool) : (s.setRxArmed b).txInflight = s.txInflight := rfl
@[simp] theorem State.setRxArmed_txDonePending (b : Bool) : (s.setRxArmed b).txDonePending = s.txDonePending := rfl
@[simp] theorem State.setRxArmed_txKind (b : Bool) : (s.setRxArmed b).txKind = s.txKind := rfl
@[simp] theorem State.setRxArmed_txErr (b : Bool) : (s.setRxArmed b).txErr = s.txErr := rfl
@[simp] theorem State.setRxArmed_tuneCh (b : Bool) : (s.setRxArmed b).tuneCh = s.tuneCh := rfl
@[simp] theorem State.setRxArmed_txBuf (b : Bool) : (s.setRxArmed b).txBuf = s.txBuf := rfl
@[simp] theorem State.setRxArmed_txLen (b : Bool) : (s.setRxArmed b).txLen = s.txLen := rfl
@[simp] theorem State.setRxArmed_rxBuf (b : Bool) : (s.setRxArmed b).rxBuf = s.rxBuf := rfl
@[simp] theorem State.setRxArmed_ev (b : Bool) : (s.setRxArmed b).ev = s.ev := rfl
@[simp] theorem State.setRxArmed_rc (b : Bool) : (s.setRxArmed b).rc = s.rc := rfl
@[simp] theorem State.setRxArmed_dp (b : Bool) : (s.setRxArmed b).dp = s.dp := rfl
@[simp] theorem State.setRxArmed_agenda (b : Bool) : (s.setRxArmed b).agenda = s.agenda := rfl

/-! ## setRxDone -/

@[simp] theorem State.setRxDone_st (b : Bool) : (s.setRxDone b).st = s.st := rfl
@[simp] theorem State.setRxDone_chIdx (b : Bool) : (s.setRxDone b).chIdx = s.chIdx := rfl
@[simp] theorem State.setRxDone_seq (b : Bool) : (s.setRxDone b).seq = s.seq := rfl
@[simp] theorem State.setRxDone_tickPending (b : Bool) : (s.setRxDone b).tickPending = s.tickPending := rfl
@[simp] theorem State.setRxDone_rxArmed (b : Bool) : (s.setRxDone b).rxArmed = s.rxArmed := rfl
@[simp] theorem State.setRxDone_rxDonePending (b : Bool) : (s.setRxDone b).rxDonePending = b := rfl
@[simp] theorem State.setRxDone_rxKind (b : Bool) : (s.setRxDone b).rxKind = s.rxKind := rfl
@[simp] theorem State.setRxDone_rxLen (b : Bool) : (s.setRxDone b).rxLen = s.rxLen := rfl
@[simp] theorem State.setRxDone_rxCrc (b : Bool) : (s.setRxDone b).rxCrc = s.rxCrc := rfl
@[simp] theorem State.setRxDone_rxErr (b : Bool) : (s.setRxDone b).rxErr = s.rxErr := rfl
@[simp] theorem State.setRxDone_txInflight (b : Bool) : (s.setRxDone b).txInflight = s.txInflight := rfl
@[simp] theorem State.setRxDone_txDonePending (b : Bool) : (s.setRxDone b).txDonePending = s.txDonePending := rfl
@[simp] theorem State.setRxDone_txKind (b : Bool) : (s.setRxDone b).txKind = s.txKind := rfl
@[simp] theorem State.setRxDone_txErr (b : Bool) : (s.setRxDone b).txErr = s.txErr := rfl
@[simp] theorem State.setRxDone_tuneCh (b : Bool) : (s.setRxDone b).tuneCh = s.tuneCh := rfl
@[simp] theorem State.setRxDone_txBuf (b : Bool) : (s.setRxDone b).txBuf = s.txBuf := rfl
@[simp] theorem State.setRxDone_txLen (b : Bool) : (s.setRxDone b).txLen = s.txLen := rfl
@[simp] theorem State.setRxDone_rxBuf (b : Bool) : (s.setRxDone b).rxBuf = s.rxBuf := rfl
@[simp] theorem State.setRxDone_ev (b : Bool) : (s.setRxDone b).ev = s.ev := rfl
@[simp] theorem State.setRxDone_rc (b : Bool) : (s.setRxDone b).rc = s.rc := rfl
@[simp] theorem State.setRxDone_dp (b : Bool) : (s.setRxDone b).dp = s.dp := rfl
@[simp] theorem State.setRxDone_agenda (b : Bool) : (s.setRxDone b).agenda = s.agenda := rfl

/-! ## setTxInflight -/

@[simp] theorem State.setTxInflight_st (b : Bool) : (s.setTxInflight b).st = s.st := rfl
@[simp] theorem State.setTxInflight_chIdx (b : Bool) : (s.setTxInflight b).chIdx = s.chIdx := rfl
@[simp] theorem State.setTxInflight_seq (b : Bool) : (s.setTxInflight b).seq = s.seq := rfl
@[simp] theorem State.setTxInflight_tickPending (b : Bool) : (s.setTxInflight b).tickPending = s.tickPending := rfl
@[simp] theorem State.setTxInflight_rxArmed (b : Bool) : (s.setTxInflight b).rxArmed = s.rxArmed := rfl
@[simp] theorem State.setTxInflight_rxDonePending (b : Bool) : (s.setTxInflight b).rxDonePending = s.rxDonePending := rfl
@[simp] theorem State.setTxInflight_rxKind (b : Bool) : (s.setTxInflight b).rxKind = s.rxKind := rfl
@[simp] theorem State.setTxInflight_rxLen (b : Bool) : (s.setTxInflight b).rxLen = s.rxLen := rfl
@[simp] theorem State.setTxInflight_rxCrc (b : Bool) : (s.setTxInflight b).rxCrc = s.rxCrc := rfl
@[simp] theorem State.setTxInflight_rxErr (b : Bool) : (s.setTxInflight b).rxErr = s.rxErr := rfl
@[simp] theorem State.setTxInflight_txInflight (b : Bool) : (s.setTxInflight b).txInflight = b := rfl
@[simp] theorem State.setTxInflight_txDonePending (b : Bool) : (s.setTxInflight b).txDonePending = s.txDonePending := rfl
@[simp] theorem State.setTxInflight_txKind (b : Bool) : (s.setTxInflight b).txKind = s.txKind := rfl
@[simp] theorem State.setTxInflight_txErr (b : Bool) : (s.setTxInflight b).txErr = s.txErr := rfl
@[simp] theorem State.setTxInflight_tuneCh (b : Bool) : (s.setTxInflight b).tuneCh = s.tuneCh := rfl
@[simp] theorem State.setTxInflight_txBuf (b : Bool) : (s.setTxInflight b).txBuf = s.txBuf := rfl
@[simp] theorem State.setTxInflight_txLen (b : Bool) : (s.setTxInflight b).txLen = s.txLen := rfl
@[simp] theorem State.setTxInflight_rxBuf (b : Bool) : (s.setTxInflight b).rxBuf = s.rxBuf := rfl
@[simp] theorem State.setTxInflight_ev (b : Bool) : (s.setTxInflight b).ev = s.ev := rfl
@[simp] theorem State.setTxInflight_rc (b : Bool) : (s.setTxInflight b).rc = s.rc := rfl
@[simp] theorem State.setTxInflight_dp (b : Bool) : (s.setTxInflight b).dp = s.dp := rfl
@[simp] theorem State.setTxInflight_agenda (b : Bool) : (s.setTxInflight b).agenda = s.agenda := rfl

/-! ## setTxDone -/

@[simp] theorem State.setTxDone_st (b : Bool) : (s.setTxDone b).st = s.st := rfl
@[simp] theorem State.setTxDone_chIdx (b : Bool) : (s.setTxDone b).chIdx = s.chIdx := rfl
@[simp] theorem State.setTxDone_seq (b : Bool) : (s.setTxDone b).seq = s.seq := rfl
@[simp] theorem State.setTxDone_tickPending (b : Bool) : (s.setTxDone b).tickPending = s.tickPending := rfl
@[simp] theorem State.setTxDone_rxArmed (b : Bool) : (s.setTxDone b).rxArmed = s.rxArmed := rfl
@[simp] theorem State.setTxDone_rxDonePending (b : Bool) : (s.setTxDone b).rxDonePending = s.rxDonePending := rfl
@[simp] theorem State.setTxDone_rxKind (b : Bool) : (s.setTxDone b).rxKind = s.rxKind := rfl
@[simp] theorem State.setTxDone_rxLen (b : Bool) : (s.setTxDone b).rxLen = s.rxLen := rfl
@[simp] theorem State.setTxDone_rxCrc (b : Bool) : (s.setTxDone b).rxCrc = s.rxCrc := rfl
@[simp] theorem State.setTxDone_rxErr (b : Bool) : (s.setTxDone b).rxErr = s.rxErr := rfl
@[simp] theorem State.setTxDone_txInflight (b : Bool) : (s.setTxDone b).txInflight = s.txInflight := rfl
@[simp] theorem State.setTxDone_txDonePending (b : Bool) : (s.setTxDone b).txDonePending = b := rfl
@[simp] theorem State.setTxDone_txKind (b : Bool) : (s.setTxDone b).txKind = s.txKind := rfl
@[simp] theorem State.setTxDone_txErr (b : Bool) : (s.setTxDone b).txErr = s.txErr := rfl
@[simp] theorem State.setTxDone_tuneCh (b : Bool) : (s.setTxDone b).tuneCh = s.tuneCh := rfl
@[simp] theorem State.setTxDone_txBuf (b : Bool) : (s.setTxDone b).txBuf = s.txBuf := rfl
@[simp] theorem State.setTxDone_txLen (b : Bool) : (s.setTxDone b).txLen = s.txLen := rfl
@[simp] theorem State.setTxDone_rxBuf (b : Bool) : (s.setTxDone b).rxBuf = s.rxBuf := rfl
@[simp] theorem State.setTxDone_ev (b : Bool) : (s.setTxDone b).ev = s.ev := rfl
@[simp] theorem State.setTxDone_rc (b : Bool) : (s.setTxDone b).rc = s.rc := rfl
@[simp] theorem State.setTxDone_dp (b : Bool) : (s.setTxDone b).dp = s.dp := rfl
@[simp] theorem State.setTxDone_agenda (b : Bool) : (s.setTxDone b).agenda = s.agenda := rfl

/-! ## setChIdx -/

@[simp] theorem State.setChIdx_st (i : BitVec 4) : (s.setChIdx i).st = s.st := rfl
@[simp] theorem State.setChIdx_chIdx (i : BitVec 4) : (s.setChIdx i).chIdx = i := rfl
@[simp] theorem State.setChIdx_seq (i : BitVec 4) : (s.setChIdx i).seq = s.seq := rfl
@[simp] theorem State.setChIdx_tickPending (i : BitVec 4) : (s.setChIdx i).tickPending = s.tickPending := rfl
@[simp] theorem State.setChIdx_rxArmed (i : BitVec 4) : (s.setChIdx i).rxArmed = s.rxArmed := rfl
@[simp] theorem State.setChIdx_rxDonePending (i : BitVec 4) : (s.setChIdx i).rxDonePending = s.rxDonePending := rfl
@[simp] theorem State.setChIdx_rxKind (i : BitVec 4) : (s.setChIdx i).rxKind = s.rxKind := rfl
@[simp] theorem State.setChIdx_rxLen (i : BitVec 4) : (s.setChIdx i).rxLen = s.rxLen := rfl
@[simp] theorem State.setChIdx_rxCrc (i : BitVec 4) : (s.setChIdx i).rxCrc = s.rxCrc := rfl
@[simp] theorem State.setChIdx_rxErr (i : BitVec 4) : (s.setChIdx i).rxErr = s.rxErr := rfl
@[simp] theorem State.setChIdx_txInflight (i : BitVec 4) : (s.setChIdx i).txInflight = s.txInflight := rfl
@[simp] theorem State.setChIdx_txDonePending (i : BitVec 4) : (s.setChIdx i).txDonePending = s.txDonePending := rfl
@[simp] theorem State.setChIdx_txKind (i : BitVec 4) : (s.setChIdx i).txKind = s.txKind := rfl
@[simp] theorem State.setChIdx_txErr (i : BitVec 4) : (s.setChIdx i).txErr = s.txErr := rfl
@[simp] theorem State.setChIdx_tuneCh (i : BitVec 4) : (s.setChIdx i).tuneCh = s.tuneCh := rfl
@[simp] theorem State.setChIdx_txBuf (i : BitVec 4) : (s.setChIdx i).txBuf = s.txBuf := rfl
@[simp] theorem State.setChIdx_txLen (i : BitVec 4) : (s.setChIdx i).txLen = s.txLen := rfl
@[simp] theorem State.setChIdx_rxBuf (i : BitVec 4) : (s.setChIdx i).rxBuf = s.rxBuf := rfl
@[simp] theorem State.setChIdx_ev (i : BitVec 4) : (s.setChIdx i).ev = s.ev := rfl
@[simp] theorem State.setChIdx_rc (i : BitVec 4) : (s.setChIdx i).rc = s.rc := rfl
@[simp] theorem State.setChIdx_dp (i : BitVec 4) : (s.setChIdx i).dp = s.dp := rfl
@[simp] theorem State.setChIdx_agenda (i : BitVec 4) : (s.setChIdx i).agenda = s.agenda := rfl

/-! ## setSeq -/

@[simp] theorem State.setSeq_st (q : BitVec 8) : (s.setSeq q).st = s.st := rfl
@[simp] theorem State.setSeq_chIdx (q : BitVec 8) : (s.setSeq q).chIdx = s.chIdx := rfl
@[simp] theorem State.setSeq_seq (q : BitVec 8) : (s.setSeq q).seq = q := rfl
@[simp] theorem State.setSeq_tickPending (q : BitVec 8) : (s.setSeq q).tickPending = s.tickPending := rfl
@[simp] theorem State.setSeq_rxArmed (q : BitVec 8) : (s.setSeq q).rxArmed = s.rxArmed := rfl
@[simp] theorem State.setSeq_rxDonePending (q : BitVec 8) : (s.setSeq q).rxDonePending = s.rxDonePending := rfl
@[simp] theorem State.setSeq_rxKind (q : BitVec 8) : (s.setSeq q).rxKind = s.rxKind := rfl
@[simp] theorem State.setSeq_rxLen (q : BitVec 8) : (s.setSeq q).rxLen = s.rxLen := rfl
@[simp] theorem State.setSeq_rxCrc (q : BitVec 8) : (s.setSeq q).rxCrc = s.rxCrc := rfl
@[simp] theorem State.setSeq_rxErr (q : BitVec 8) : (s.setSeq q).rxErr = s.rxErr := rfl
@[simp] theorem State.setSeq_txInflight (q : BitVec 8) : (s.setSeq q).txInflight = s.txInflight := rfl
@[simp] theorem State.setSeq_txDonePending (q : BitVec 8) : (s.setSeq q).txDonePending = s.txDonePending := rfl
@[simp] theorem State.setSeq_txKind (q : BitVec 8) : (s.setSeq q).txKind = s.txKind := rfl
@[simp] theorem State.setSeq_txErr (q : BitVec 8) : (s.setSeq q).txErr = s.txErr := rfl
@[simp] theorem State.setSeq_tuneCh (q : BitVec 8) : (s.setSeq q).tuneCh = s.tuneCh := rfl
@[simp] theorem State.setSeq_txBuf (q : BitVec 8) : (s.setSeq q).txBuf = s.txBuf := rfl
@[simp] theorem State.setSeq_txLen (q : BitVec 8) : (s.setSeq q).txLen = s.txLen := rfl
@[simp] theorem State.setSeq_rxBuf (q : BitVec 8) : (s.setSeq q).rxBuf = s.rxBuf := rfl
@[simp] theorem State.setSeq_ev (q : BitVec 8) : (s.setSeq q).ev = s.ev := rfl
@[simp] theorem State.setSeq_rc (q : BitVec 8) : (s.setSeq q).rc = s.rc := rfl
@[simp] theorem State.setSeq_dp (q : BitVec 8) : (s.setSeq q).dp = s.dp := rfl
@[simp] theorem State.setSeq_agenda (q : BitVec 8) : (s.setSeq q).agenda = s.agenda := rfl

/-! ## setTuneCh -/

@[simp] theorem State.setTuneCh_st (c : BitVec 5) : (s.setTuneCh c).st = s.st := rfl
@[simp] theorem State.setTuneCh_chIdx (c : BitVec 5) : (s.setTuneCh c).chIdx = s.chIdx := rfl
@[simp] theorem State.setTuneCh_seq (c : BitVec 5) : (s.setTuneCh c).seq = s.seq := rfl
@[simp] theorem State.setTuneCh_tickPending (c : BitVec 5) : (s.setTuneCh c).tickPending = s.tickPending := rfl
@[simp] theorem State.setTuneCh_rxArmed (c : BitVec 5) : (s.setTuneCh c).rxArmed = s.rxArmed := rfl
@[simp] theorem State.setTuneCh_rxDonePending (c : BitVec 5) : (s.setTuneCh c).rxDonePending = s.rxDonePending := rfl
@[simp] theorem State.setTuneCh_rxKind (c : BitVec 5) : (s.setTuneCh c).rxKind = s.rxKind := rfl
@[simp] theorem State.setTuneCh_rxLen (c : BitVec 5) : (s.setTuneCh c).rxLen = s.rxLen := rfl
@[simp] theorem State.setTuneCh_rxCrc (c : BitVec 5) : (s.setTuneCh c).rxCrc = s.rxCrc := rfl
@[simp] theorem State.setTuneCh_rxErr (c : BitVec 5) : (s.setTuneCh c).rxErr = s.rxErr := rfl
@[simp] theorem State.setTuneCh_txInflight (c : BitVec 5) : (s.setTuneCh c).txInflight = s.txInflight := rfl
@[simp] theorem State.setTuneCh_txDonePending (c : BitVec 5) : (s.setTuneCh c).txDonePending = s.txDonePending := rfl
@[simp] theorem State.setTuneCh_txKind (c : BitVec 5) : (s.setTuneCh c).txKind = s.txKind := rfl
@[simp] theorem State.setTuneCh_txErr (c : BitVec 5) : (s.setTuneCh c).txErr = s.txErr := rfl
@[simp] theorem State.setTuneCh_tuneCh (c : BitVec 5) : (s.setTuneCh c).tuneCh = c := rfl
@[simp] theorem State.setTuneCh_txBuf (c : BitVec 5) : (s.setTuneCh c).txBuf = s.txBuf := rfl
@[simp] theorem State.setTuneCh_txLen (c : BitVec 5) : (s.setTuneCh c).txLen = s.txLen := rfl
@[simp] theorem State.setTuneCh_rxBuf (c : BitVec 5) : (s.setTuneCh c).rxBuf = s.rxBuf := rfl
@[simp] theorem State.setTuneCh_ev (c : BitVec 5) : (s.setTuneCh c).ev = s.ev := rfl
@[simp] theorem State.setTuneCh_rc (c : BitVec 5) : (s.setTuneCh c).rc = s.rc := rfl
@[simp] theorem State.setTuneCh_dp (c : BitVec 5) : (s.setTuneCh c).dp = s.dp := rfl
@[simp] theorem State.setTuneCh_agenda (c : BitVec 5) : (s.setTuneCh c).agenda = s.agenda := rfl

/-! ## putTxFrame -/

@[simp] theorem State.putTxFrame_st (bs : List Byte) : (s.putTxFrame bs).st = s.st := rfl
@[simp] theorem State.putTxFrame_chIdx (bs : List Byte) : (s.putTxFrame bs).chIdx = s.chIdx := rfl
@[simp] theorem State.putTxFrame_seq (bs : List Byte) : (s.putTxFrame bs).seq = s.seq := rfl
@[simp] theorem State.putTxFrame_tickPending (bs : List Byte) : (s.putTxFrame bs).tickPending = s.tickPending := rfl
@[simp] theorem State.putTxFrame_rxArmed (bs : List Byte) : (s.putTxFrame bs).rxArmed = s.rxArmed := rfl
@[simp] theorem State.putTxFrame_rxDonePending (bs : List Byte) : (s.putTxFrame bs).rxDonePending = s.rxDonePending := rfl
@[simp] theorem State.putTxFrame_rxKind (bs : List Byte) : (s.putTxFrame bs).rxKind = s.rxKind := rfl
@[simp] theorem State.putTxFrame_rxLen (bs : List Byte) : (s.putTxFrame bs).rxLen = s.rxLen := rfl
@[simp] theorem State.putTxFrame_rxCrc (bs : List Byte) : (s.putTxFrame bs).rxCrc = s.rxCrc := rfl
@[simp] theorem State.putTxFrame_rxErr (bs : List Byte) : (s.putTxFrame bs).rxErr = s.rxErr := rfl
@[simp] theorem State.putTxFrame_txInflight (bs : List Byte) : (s.putTxFrame bs).txInflight = s.txInflight := rfl
@[simp] theorem State.putTxFrame_txDonePending (bs : List Byte) : (s.putTxFrame bs).txDonePending = s.txDonePending := rfl
@[simp] theorem State.putTxFrame_txKind (bs : List Byte) : (s.putTxFrame bs).txKind = s.txKind := rfl
@[simp] theorem State.putTxFrame_txErr (bs : List Byte) : (s.putTxFrame bs).txErr = s.txErr := rfl
@[simp] theorem State.putTxFrame_tuneCh (bs : List Byte) : (s.putTxFrame bs).tuneCh = s.tuneCh := rfl
@[simp] theorem State.putTxFrame_txBuf (bs : List Byte) : (s.putTxFrame bs).txBuf = bufWriteBytes s.txBuf 0 bs := rfl
@[simp] theorem State.putTxFrame_txLen (bs : List Byte) : (s.putTxFrame bs).txLen = s.txLen := rfl
@[simp] theorem State.putTxFrame_rxBuf (bs : List Byte) : (s.putTxFrame bs).rxBuf = s.rxBuf := rfl
@[simp] theorem State.putTxFrame_ev (bs : List Byte) : (s.putTxFrame bs).ev = s.ev := rfl
@[simp] theorem State.putTxFrame_rc (bs : List Byte) : (s.putTxFrame bs).rc = s.rc := rfl
@[simp] theorem State.putTxFrame_dp (bs : List Byte) : (s.putTxFrame bs).dp = s.dp := rfl
@[simp] theorem State.putTxFrame_agenda (bs : List Byte) : (s.putTxFrame bs).agenda = s.agenda := rfl

/-! ## setTxLen -/

@[simp] theorem State.setTxLen_st (n : BitVec 7) : (s.setTxLen n).st = s.st := rfl
@[simp] theorem State.setTxLen_chIdx (n : BitVec 7) : (s.setTxLen n).chIdx = s.chIdx := rfl
@[simp] theorem State.setTxLen_seq (n : BitVec 7) : (s.setTxLen n).seq = s.seq := rfl
@[simp] theorem State.setTxLen_tickPending (n : BitVec 7) : (s.setTxLen n).tickPending = s.tickPending := rfl
@[simp] theorem State.setTxLen_rxArmed (n : BitVec 7) : (s.setTxLen n).rxArmed = s.rxArmed := rfl
@[simp] theorem State.setTxLen_rxDonePending (n : BitVec 7) : (s.setTxLen n).rxDonePending = s.rxDonePending := rfl
@[simp] theorem State.setTxLen_rxKind (n : BitVec 7) : (s.setTxLen n).rxKind = s.rxKind := rfl
@[simp] theorem State.setTxLen_rxLen (n : BitVec 7) : (s.setTxLen n).rxLen = s.rxLen := rfl
@[simp] theorem State.setTxLen_rxCrc (n : BitVec 7) : (s.setTxLen n).rxCrc = s.rxCrc := rfl
@[simp] theorem State.setTxLen_rxErr (n : BitVec 7) : (s.setTxLen n).rxErr = s.rxErr := rfl
@[simp] theorem State.setTxLen_txInflight (n : BitVec 7) : (s.setTxLen n).txInflight = s.txInflight := rfl
@[simp] theorem State.setTxLen_txDonePending (n : BitVec 7) : (s.setTxLen n).txDonePending = s.txDonePending := rfl
@[simp] theorem State.setTxLen_txKind (n : BitVec 7) : (s.setTxLen n).txKind = s.txKind := rfl
@[simp] theorem State.setTxLen_txErr (n : BitVec 7) : (s.setTxLen n).txErr = s.txErr := rfl
@[simp] theorem State.setTxLen_tuneCh (n : BitVec 7) : (s.setTxLen n).tuneCh = s.tuneCh := rfl
@[simp] theorem State.setTxLen_txBuf (n : BitVec 7) : (s.setTxLen n).txBuf = s.txBuf := rfl
@[simp] theorem State.setTxLen_txLen (n : BitVec 7) : (s.setTxLen n).txLen = n := rfl
@[simp] theorem State.setTxLen_rxBuf (n : BitVec 7) : (s.setTxLen n).rxBuf = s.rxBuf := rfl
@[simp] theorem State.setTxLen_ev (n : BitVec 7) : (s.setTxLen n).ev = s.ev := rfl
@[simp] theorem State.setTxLen_rc (n : BitVec 7) : (s.setTxLen n).rc = s.rc := rfl
@[simp] theorem State.setTxLen_dp (n : BitVec 7) : (s.setTxLen n).dp = s.dp := rfl
@[simp] theorem State.setTxLen_agenda (n : BitVec 7) : (s.setTxLen n).agenda = s.agenda := rfl

/-! ## setDp -/

@[simp] theorem State.setDp_st (d : Datapath) : (s.setDp d).st = s.st := rfl
@[simp] theorem State.setDp_chIdx (d : Datapath) : (s.setDp d).chIdx = s.chIdx := rfl
@[simp] theorem State.setDp_seq (d : Datapath) : (s.setDp d).seq = s.seq := rfl
@[simp] theorem State.setDp_tickPending (d : Datapath) : (s.setDp d).tickPending = s.tickPending := rfl
@[simp] theorem State.setDp_rxArmed (d : Datapath) : (s.setDp d).rxArmed = s.rxArmed := rfl
@[simp] theorem State.setDp_rxDonePending (d : Datapath) : (s.setDp d).rxDonePending = s.rxDonePending := rfl
@[simp] theorem State.setDp_rxKind (d : Datapath) : (s.setDp d).rxKind = s.rxKind := rfl
@[simp] theorem State.setDp_rxLen (d : Datapath) : (s.setDp d).rxLen = s.rxLen := rfl
@[simp] theorem State.setDp_rxCrc (d : Datapath) : (s.setDp d).rxCrc = s.rxCrc := rfl
@[simp] theorem State.setDp_rxErr (d : Datapath) : (s.setDp d).rxErr = s.rxErr := rfl
@[simp] theorem State.setDp_txInflight (d : Datapath) : (s.setDp d).txInflight = s.txInflight := rfl
@[simp] theorem State.setDp_txDonePending (d : Datapath) : (s.setDp d).txDonePending = s.txDonePending := rfl
@[simp] theorem State.setDp_txKind (d : Datapath) : (s.setDp d).txKind = s.txKind := rfl
@[simp] theorem State.setDp_txErr (d : Datapath) : (s.setDp d).txErr = s.txErr := rfl
@[simp] theorem State.setDp_tuneCh (d : Datapath) : (s.setDp d).tuneCh = s.tuneCh := rfl
@[simp] theorem State.setDp_txBuf (d : Datapath) : (s.setDp d).txBuf = s.txBuf := rfl
@[simp] theorem State.setDp_txLen (d : Datapath) : (s.setDp d).txLen = s.txLen := rfl
@[simp] theorem State.setDp_rxBuf (d : Datapath) : (s.setDp d).rxBuf = s.rxBuf := rfl
@[simp] theorem State.setDp_ev (d : Datapath) : (s.setDp d).ev = s.ev := rfl
@[simp] theorem State.setDp_rc (d : Datapath) : (s.setDp d).rc = s.rc := rfl
@[simp] theorem State.setDp_dp (d : Datapath) : (s.setDp d).dp = d := rfl
@[simp] theorem State.setDp_agenda (d : Datapath) : (s.setDp d).agenda = s.agenda := rfl

/-! ## setAgenda -/

@[simp] theorem State.setAgenda_st (a : List Item) : (s.setAgenda a).st = s.st := rfl
@[simp] theorem State.setAgenda_chIdx (a : List Item) : (s.setAgenda a).chIdx = s.chIdx := rfl
@[simp] theorem State.setAgenda_seq (a : List Item) : (s.setAgenda a).seq = s.seq := rfl
@[simp] theorem State.setAgenda_tickPending (a : List Item) : (s.setAgenda a).tickPending = s.tickPending := rfl
@[simp] theorem State.setAgenda_rxArmed (a : List Item) : (s.setAgenda a).rxArmed = s.rxArmed := rfl
@[simp] theorem State.setAgenda_rxDonePending (a : List Item) : (s.setAgenda a).rxDonePending = s.rxDonePending := rfl
@[simp] theorem State.setAgenda_rxKind (a : List Item) : (s.setAgenda a).rxKind = s.rxKind := rfl
@[simp] theorem State.setAgenda_rxLen (a : List Item) : (s.setAgenda a).rxLen = s.rxLen := rfl
@[simp] theorem State.setAgenda_rxCrc (a : List Item) : (s.setAgenda a).rxCrc = s.rxCrc := rfl
@[simp] theorem State.setAgenda_rxErr (a : List Item) : (s.setAgenda a).rxErr = s.rxErr := rfl
@[simp] theorem State.setAgenda_txInflight (a : List Item) : (s.setAgenda a).txInflight = s.txInflight := rfl
@[simp] theorem State.setAgenda_txDonePending (a : List Item) : (s.setAgenda a).txDonePending = s.txDonePending := rfl
@[simp] theorem State.setAgenda_txKind (a : List Item) : (s.setAgenda a).txKind = s.txKind := rfl
@[simp] theorem State.setAgenda_txErr (a : List Item) : (s.setAgenda a).txErr = s.txErr := rfl
@[simp] theorem State.setAgenda_tuneCh (a : List Item) : (s.setAgenda a).tuneCh = s.tuneCh := rfl
@[simp] theorem State.setAgenda_txBuf (a : List Item) : (s.setAgenda a).txBuf = s.txBuf := rfl
@[simp] theorem State.setAgenda_txLen (a : List Item) : (s.setAgenda a).txLen = s.txLen := rfl
@[simp] theorem State.setAgenda_rxBuf (a : List Item) : (s.setAgenda a).rxBuf = s.rxBuf := rfl
@[simp] theorem State.setAgenda_ev (a : List Item) : (s.setAgenda a).ev = s.ev := rfl
@[simp] theorem State.setAgenda_rc (a : List Item) : (s.setAgenda a).rc = s.rc := rfl
@[simp] theorem State.setAgenda_dp (a : List Item) : (s.setAgenda a).dp = s.dp := rfl
@[simp] theorem State.setAgenda_agenda (a : List Item) : (s.setAgenda a).agenda = a := rfl

/-! ## dropRxFrame -/

@[simp] theorem State.dropRxFrame_st : s.dropRxFrame.st = s.st := rfl
@[simp] theorem State.dropRxFrame_chIdx : s.dropRxFrame.chIdx = s.chIdx := rfl
@[simp] theorem State.dropRxFrame_seq : s.dropRxFrame.seq = s.seq := rfl
@[simp] theorem State.dropRxFrame_tickPending : s.dropRxFrame.tickPending = s.tickPending := rfl
@[simp] theorem State.dropRxFrame_rxArmed : s.dropRxFrame.rxArmed = s.rxArmed := rfl
@[simp] theorem State.dropRxFrame_rxDonePending : s.dropRxFrame.rxDonePending = s.rxDonePending := rfl
@[simp] theorem State.dropRxFrame_rxKind : s.dropRxFrame.rxKind = s.rxKind := rfl
@[simp] theorem State.dropRxFrame_rxLen : s.dropRxFrame.rxLen = s.rxLen := rfl
@[simp] theorem State.dropRxFrame_rxCrc : s.dropRxFrame.rxCrc = s.rxCrc := rfl
@[simp] theorem State.dropRxFrame_rxErr : s.dropRxFrame.rxErr = s.rxErr := rfl
@[simp] theorem State.dropRxFrame_txInflight : s.dropRxFrame.txInflight = s.txInflight := rfl
@[simp] theorem State.dropRxFrame_txDonePending : s.dropRxFrame.txDonePending = s.txDonePending := rfl
@[simp] theorem State.dropRxFrame_txKind : s.dropRxFrame.txKind = s.txKind := rfl
@[simp] theorem State.dropRxFrame_txErr : s.dropRxFrame.txErr = s.txErr := rfl
@[simp] theorem State.dropRxFrame_tuneCh : s.dropRxFrame.tuneCh = s.tuneCh := rfl
@[simp] theorem State.dropRxFrame_txBuf : s.dropRxFrame.txBuf = s.txBuf := rfl
@[simp] theorem State.dropRxFrame_txLen : s.dropRxFrame.txLen = s.txLen := rfl
@[simp] theorem State.dropRxFrame_rxBuf : s.dropRxFrame.rxBuf = [] := rfl
@[simp] theorem State.dropRxFrame_ev : s.dropRxFrame.ev = s.ev := rfl
@[simp] theorem State.dropRxFrame_rc : s.dropRxFrame.rc = s.rc := rfl
@[simp] theorem State.dropRxFrame_dp : s.dropRxFrame.dp = s.dp := rfl
@[simp] theorem State.dropRxFrame_agenda : s.dropRxFrame.agenda = s.agenda := rfl

/-! ## putRxFrame -/

@[simp] theorem State.putRxFrame_st (bs : List Byte) : (s.putRxFrame bs).st = s.st := rfl
@[simp] theorem State.putRxFrame_chIdx (bs : List Byte) : (s.putRxFrame bs).chIdx = s.chIdx := rfl
@[simp] theorem State.putRxFrame_seq (bs : List Byte) : (s.putRxFrame bs).seq = s.seq := rfl
@[simp] theorem State.putRxFrame_tickPending (bs : List Byte) : (s.putRxFrame bs).tickPending = s.tickPending := rfl
@[simp] theorem State.putRxFrame_rxArmed (bs : List Byte) : (s.putRxFrame bs).rxArmed = s.rxArmed := rfl
@[simp] theorem State.putRxFrame_rxDonePending (bs : List Byte) : (s.putRxFrame bs).rxDonePending = s.rxDonePending := rfl
@[simp] theorem State.putRxFrame_rxKind (bs : List Byte) : (s.putRxFrame bs).rxKind = s.rxKind := rfl
@[simp] theorem State.putRxFrame_rxLen (bs : List Byte) : (s.putRxFrame bs).rxLen = BitVec.ofNat 7 bs.length := rfl
@[simp] theorem State.putRxFrame_rxCrc (bs : List Byte) : (s.putRxFrame bs).rxCrc = s.rxCrc := rfl
@[simp] theorem State.putRxFrame_rxErr (bs : List Byte) : (s.putRxFrame bs).rxErr = s.rxErr := rfl
@[simp] theorem State.putRxFrame_txInflight (bs : List Byte) : (s.putRxFrame bs).txInflight = s.txInflight := rfl
@[simp] theorem State.putRxFrame_txDonePending (bs : List Byte) : (s.putRxFrame bs).txDonePending = s.txDonePending := rfl
@[simp] theorem State.putRxFrame_txKind (bs : List Byte) : (s.putRxFrame bs).txKind = s.txKind := rfl
@[simp] theorem State.putRxFrame_txErr (bs : List Byte) : (s.putRxFrame bs).txErr = s.txErr := rfl
@[simp] theorem State.putRxFrame_tuneCh (bs : List Byte) : (s.putRxFrame bs).tuneCh = s.tuneCh := rfl
@[simp] theorem State.putRxFrame_txBuf (bs : List Byte) : (s.putRxFrame bs).txBuf = s.txBuf := rfl
@[simp] theorem State.putRxFrame_txLen (bs : List Byte) : (s.putRxFrame bs).txLen = s.txLen := rfl
@[simp] theorem State.putRxFrame_rxBuf (bs : List Byte) : (s.putRxFrame bs).rxBuf = bufWriteBytes [] 0 bs := rfl
@[simp] theorem State.putRxFrame_ev (bs : List Byte) : (s.putRxFrame bs).ev = s.ev := rfl
@[simp] theorem State.putRxFrame_rc (bs : List Byte) : (s.putRxFrame bs).rc = s.rc := rfl
@[simp] theorem State.putRxFrame_dp (bs : List Byte) : (s.putRxFrame bs).dp = s.dp := rfl
@[simp] theorem State.putRxFrame_agenda (bs : List Byte) : (s.putRxFrame bs).agenda = s.agenda := rfl

/-! ## setRxKind -/

@[simp] theorem State.setRxKind_st (k : BitVec 3) : (s.setRxKind k).st = s.st := rfl
@[simp] theorem State.setRxKind_chIdx (k : BitVec 3) : (s.setRxKind k).chIdx = s.chIdx := rfl
@[simp] theorem State.setRxKind_seq (k : BitVec 3) : (s.setRxKind k).seq = s.seq := rfl
@[simp] theorem State.setRxKind_tickPending (k : BitVec 3) : (s.setRxKind k).tickPending = s.tickPending := rfl
@[simp] theorem State.setRxKind_rxArmed (k : BitVec 3) : (s.setRxKind k).rxArmed = s.rxArmed := rfl
@[simp] theorem State.setRxKind_rxDonePending (k : BitVec 3) : (s.setRxKind k).rxDonePending = s.rxDonePending := rfl
@[simp] theorem State.setRxKind_rxKind (k : BitVec 3) : (s.setRxKind k).rxKind = k := rfl
@[simp] theorem State.setRxKind_rxLen (k : BitVec 3) : (s.setRxKind k).rxLen = s.rxLen := rfl
@[simp] theorem State.setRxKind_rxCrc (k : BitVec 3) : (s.setRxKind k).rxCrc = s.rxCrc := rfl
@[simp] theorem State.setRxKind_rxErr (k : BitVec 3) : (s.setRxKind k).rxErr = s.rxErr := rfl
@[simp] theorem State.setRxKind_txInflight (k : BitVec 3) : (s.setRxKind k).txInflight = s.txInflight := rfl
@[simp] theorem State.setRxKind_txDonePending (k : BitVec 3) : (s.setRxKind k).txDonePending = s.txDonePending := rfl
@[simp] theorem State.setRxKind_txKind (k : BitVec 3) : (s.setRxKind k).txKind = s.txKind := rfl
@[simp] theorem State.setRxKind_txErr (k : BitVec 3) : (s.setRxKind k).txErr = s.txErr := rfl
@[simp] theorem State.setRxKind_tuneCh (k : BitVec 3) : (s.setRxKind k).tuneCh = s.tuneCh := rfl
@[simp] theorem State.setRxKind_txBuf (k : BitVec 3) : (s.setRxKind k).txBuf = s.txBuf := rfl
@[simp] theorem State.setRxKind_txLen (k : BitVec 3) : (s.setRxKind k).txLen = s.txLen := rfl
@[simp] theorem State.setRxKind_rxBuf (k : BitVec 3) : (s.setRxKind k).rxBuf = s.rxBuf := rfl
@[simp] theorem State.setRxKind_ev (k : BitVec 3) : (s.setRxKind k).ev = s.ev := rfl
@[simp] theorem State.setRxKind_rc (k : BitVec 3) : (s.setRxKind k).rc = s.rc := rfl
@[simp] theorem State.setRxKind_dp (k : BitVec 3) : (s.setRxKind k).dp = s.dp := rfl
@[simp] theorem State.setRxKind_agenda (k : BitVec 3) : (s.setRxKind k).agenda = s.agenda := rfl

/-! ## setTxKind -/

@[simp] theorem State.setTxKind_st (k : BitVec 3) : (s.setTxKind k).st = s.st := rfl
@[simp] theorem State.setTxKind_chIdx (k : BitVec 3) : (s.setTxKind k).chIdx = s.chIdx := rfl
@[simp] theorem State.setTxKind_seq (k : BitVec 3) : (s.setTxKind k).seq = s.seq := rfl
@[simp] theorem State.setTxKind_tickPending (k : BitVec 3) : (s.setTxKind k).tickPending = s.tickPending := rfl
@[simp] theorem State.setTxKind_rxArmed (k : BitVec 3) : (s.setTxKind k).rxArmed = s.rxArmed := rfl
@[simp] theorem State.setTxKind_rxDonePending (k : BitVec 3) : (s.setTxKind k).rxDonePending = s.rxDonePending := rfl
@[simp] theorem State.setTxKind_rxKind (k : BitVec 3) : (s.setTxKind k).rxKind = s.rxKind := rfl
@[simp] theorem State.setTxKind_rxLen (k : BitVec 3) : (s.setTxKind k).rxLen = s.rxLen := rfl
@[simp] theorem State.setTxKind_rxCrc (k : BitVec 3) : (s.setTxKind k).rxCrc = s.rxCrc := rfl
@[simp] theorem State.setTxKind_rxErr (k : BitVec 3) : (s.setTxKind k).rxErr = s.rxErr := rfl
@[simp] theorem State.setTxKind_txInflight (k : BitVec 3) : (s.setTxKind k).txInflight = s.txInflight := rfl
@[simp] theorem State.setTxKind_txDonePending (k : BitVec 3) : (s.setTxKind k).txDonePending = s.txDonePending := rfl
@[simp] theorem State.setTxKind_txKind (k : BitVec 3) : (s.setTxKind k).txKind = k := rfl
@[simp] theorem State.setTxKind_txErr (k : BitVec 3) : (s.setTxKind k).txErr = s.txErr := rfl
@[simp] theorem State.setTxKind_tuneCh (k : BitVec 3) : (s.setTxKind k).tuneCh = s.tuneCh := rfl
@[simp] theorem State.setTxKind_txBuf (k : BitVec 3) : (s.setTxKind k).txBuf = s.txBuf := rfl
@[simp] theorem State.setTxKind_txLen (k : BitVec 3) : (s.setTxKind k).txLen = s.txLen := rfl
@[simp] theorem State.setTxKind_rxBuf (k : BitVec 3) : (s.setTxKind k).rxBuf = s.rxBuf := rfl
@[simp] theorem State.setTxKind_ev (k : BitVec 3) : (s.setTxKind k).ev = s.ev := rfl
@[simp] theorem State.setTxKind_rc (k : BitVec 3) : (s.setTxKind k).rc = s.rc := rfl
@[simp] theorem State.setTxKind_dp (k : BitVec 3) : (s.setTxKind k).dp = s.dp := rfl
@[simp] theorem State.setTxKind_agenda (k : BitVec 3) : (s.setTxKind k).agenda = s.agenda := rfl

end Sys2Proof.Machine
end

