-- ==== Sys2Proof/Laws/Words.lean ====
section
/-! SUPPORT. Byte order and word layouts: a value and its bytes determine each other, and a field of a word is the field
it was laid out from. -/

namespace Sys2Proof

/-! ## Byte order -/

@[simp] theorem length_leBytes (n v : Nat) : (leBytes n v).length = n := by
  induction n generalizing v with
  | zero => rfl
  | succ n ih => simp [leBytes, ih]

/-- The value of the `n` low bytes of a value is the value below `256 ^ n`. -/
theorem leNat_leBytes (n v : Nat) : leNat (leBytes n v) = v % 256 ^ n := by
  induction n generalizing v with
  | zero => simp [leBytes, leNat, Nat.mod_one]
  | succ n ih =>
    simp only [leBytes, leNat, ih, BitVec.toNat_ofNat]
    rw [show 256 ^ (n + 1) = 256 * 256 ^ n by rw [Nat.pow_succ, Nat.mul_comm], Nat.mod_mul]

/-- A value that fits is the value of its bytes. -/
theorem leNat_leBytes_of_lt {n v : Nat} (h : v < 256 ^ n) : leNat (leBytes n v) = v := by
  rw [leNat_leBytes, Nat.mod_eq_of_lt h]

/-- The value of bytes is below `256` to their number. -/
theorem leNat_lt (bs : List Byte) : leNat bs < 256 ^ bs.length := by
  induction bs with
  | nil => simp [leNat]
  | cons b bs ih =>
    simp only [leNat, List.length_cons, Nat.pow_succ]
    have := b.isLt
    omega

/-- Bytes are the bytes of their value. -/
theorem leBytes_leNat (bs : List Byte) : leBytes bs.length (leNat bs) = bs := by
  induction bs with
  | nil => rfl
  | cons b bs ih =>
    simp only [List.length_cons, leBytes, leNat]
    have hb := b.isLt
    rw [show (b.toNat + 256 * leNat bs) / 256 = leNat bs by omega, ih]
    congr 1
    apply BitVec.eq_of_toNat_eq
    simp only [BitVec.toNat_ofNat]
    omega

/-! ## Fields of a word -/

theorem toNat_extractLsb {w : Nat} (x : BitVec w) (lo n : Nat) :
    (x.extractLsb' lo n).toNat = x.toNat / 2 ^ lo % 2 ^ n := by
  simp [BitVec.extractLsb'_toNat, Nat.shiftRight_eq_div_pow]

/-- A bit of a word, by its number. -/
theorem getLsbD_of_toNat {w : Nat} {x : BitVec w} {i : Nat} {b : Bool} (h : x.toNat / 2 ^ i % 2 = b.toNat) :
    x.getLsbD i = b := by
  rw [BitVec.getLsbD, Nat.testBit_eq_decide_div_mod_eq, h]
  cases b <;> rfl

/-- A field of a word, by its number. -/
theorem extractLsb_of_toNat {w n : Nat} {x : BitVec w} {lo : Nat} {y : BitVec n}
    (h : x.toNat / 2 ^ lo % 2 ^ n = y.toNat) : x.extractLsb' lo n = y :=
  BitVec.eq_of_toNat_eq (by rw [toNat_extractLsb, h])

/-! ## The frame control field -/

theorem Fcf.toNat_toWord (f : Fcf) : f.toWord.toNat = f.ftype.toNat + 8 * f.sec.toNat + 16 * f.pend.toNat
    + 32 * f.ackreq.toNat + 64 * f.pidc.toNat + 128 * f.resv.toNat + 1024 * f.dstMode.toNat
    + 4096 * f.fver.toNat + 16384 * f.srcMode.toNat := by
  have := f.ftype.isLt; have := f.resv.isLt; have := f.dstMode.isLt; have := f.fver.isLt; have := f.srcMode.isLt
  have := Bool.toNat_le f.sec; have := Bool.toNat_le f.pend; have := Bool.toNat_le f.ackreq
  have := Bool.toNat_le f.pidc
  simp only [Fcf.toWord, BitVec.toNat_ofNat, Nat.reducePow] at *
  omega

/-- The frame control field read from its word is the one the word was laid out from. -/
theorem Fcf.ofWord_toWord (f : Fcf) : Fcf.ofWord f.toWord = f := by
  have h := f.toNat_toWord
  have := f.ftype.isLt; have := f.resv.isLt; have := f.dstMode.isLt; have := f.fver.isLt; have := f.srcMode.isLt
  have := Bool.toNat_le f.sec; have := Bool.toNat_le f.pend; have := Bool.toNat_le f.ackreq
  have := Bool.toNat_le f.pidc
  obtain ⟨ftype, sec, pend, ackreq, pidc, resv, dm, fver, sm⟩ := f
  simp only [Fcf.ofWord, Fcf.mk.injEq] at *
  refine ⟨?_, ?_, ?_, ?_, ?_, ?_, ?_, ?_, ?_⟩ <;>
    first
    | (apply extractLsb_of_toNat; rw [h]; simp only [Nat.reducePow] at *; omega)
    | (apply getLsbD_of_toNat; rw [h]; simp only [Nat.reducePow] at *; omega)

/-- A word laid out from the frame control field read from it is the word (30_encoding.md R71: the fields cover all
sixteen bits). -/
theorem Fcf.toWord_ofWord (w : BitVec 16) : (Fcf.ofWord w).toWord = w := by
  have hw := w.isLt
  apply BitVec.eq_of_toNat_eq
  rw [Fcf.toNat_toWord]
  have hb : ∀ i, (w.getLsbD i).toNat = w.toNat / 2 ^ i % 2 := by
    intro i
    have : w.toNat / 2 ^ i % 2 = 0 ∨ w.toNat / 2 ^ i % 2 = 1 := by omega
    rcases this with h | h
    · rw [getLsbD_of_toNat (b := false) (by simpa using h), h]; rfl
    · rw [getLsbD_of_toNat (b := true) (by simpa using h), h]; rfl
  simp only [Fcf.ofWord, toNat_extractLsb, hb, Nat.reducePow]
  omega

/-! ## Port words -/

theorem toNat_rcmdWord (op : BitVec 2) (chan : BitVec 5) (len : BitVec 7) :
    (rcmdWord op chan len).toNat = op.toNat + 256 * chan.toNat + 65536 * len.toNat := by
  have := op.isLt; have := chan.isLt; have := len.isLt
  simp only [rcmdWord, BitVec.toNat_ofNat, Nat.reducePow] at *
  omega

theorem toNat_rrspWord (kind : BitVec 3) (len : BitVec 7) (err : BitVec 8) (crc : BitVec 16) :
    (rrspWord kind len err crc).toNat =
      kind.toNat + 256 * len.toNat + 65536 * err.toNat + 4294967296 * crc.toNat := by
  have := kind.isLt; have := len.isLt; have := err.isLt; have := crc.isLt
  simp only [rrspWord, BitVec.toNat_ofNat, Nat.reducePow] at *
  omega

theorem toNat_evtWord (code : BitVec 3) (chan : BitVec 5) (seq : BitVec 8) (v16 : BitVec 16) (smode : BitVec 2)
    (coord join : Bool) (k8 : BitVec 8) (len : BitVec 7) (saddr : BitVec 64) :
    (evtWord code chan seq v16 smode coord join k8 len saddr).toNat =
      code.toNat + 2 ^ 3 * chan.toNat + 2 ^ 8 * seq.toNat + 2 ^ 16 * v16.toNat + 2 ^ 32 * smode.toNat
        + 2 ^ 34 * coord.toNat + 2 ^ 35 * join.toNat + 2 ^ 36 * k8.toNat + 2 ^ 44 * len.toNat
        + 2 ^ 64 * saddr.toNat := by
  have := code.isLt; have := chan.isLt; have := seq.isLt; have := v16.isLt; have := smode.isLt
  have := Bool.toNat_le coord; have := Bool.toNat_le join; have := k8.isLt; have := len.isLt; have := saddr.isLt
  simp only [evtWord, BitVec.toNat_ofNat, Nat.reducePow] at *
  omega

end Sys2Proof
end

