-- ==== Sys2Proof/Laws/Ops.lean ====
section
/-! SUPPORT. For each shared operation, once, what it can do: what it answers, and when. Later proofs cite these instead
of unfolding the operations. -/

namespace Sys2Proof.Machine

/-! ## The channel sequencer -/

theorem nextIndex_eq (i : BitVec 4) : nextIndex i = i + 1 := by revert i; decide

theorem currentChannel_eq (i : BitVec 4) : currentChannel i = BitVec.ofNat 5 (11 + i.toNat) := by revert i; decide

/-! ## Reading a frame -/

/-- `need` passes where the bytes are there. -/
theorem need_of_le {b : List Byte} {p k : Nat} (h : p + k ≤ b.length) : need b p k = .ok () := by
  simp [need]; omega

/-- `need` fails with one error only. -/
theorem need_of_gt {b : List Byte} {p k : Nat} (h : b.length < p + k) : need b p k = .error .truncated := by
  simp [need]; omega

/-- What the five checks let through. -/
theorem fcfCheck_ok {f : Fcf} (h : fcfCheck f = .ok ()) :
    f.ftype.toNat < 4 ∧ f.sec = false ∧ f.dstMode ≠ 1 ∧ f.srcMode ≠ 1 ∧ f.fver.toNat < 2 ∧
      (f.pidc = true → f.srcMode ≠ 0 → f.dstMode ≠ 0) := by
  unfold fcfCheck at h
  repeat' (split at h; · cases h)
  refine ⟨by omega, by simp_all, by simp_all, by simp_all, by omega, ?_⟩
  intro h1 h2 h3
  simp_all

/-- A received frame that can be read has at most 125 bytes, each with a value. -/
theorem rxFrame_ok {s : State} {b : List Byte} (h : s.rxFrame = .ok b) :
    s.rxLen.toNat ≤ Config.maxFrameLen ∧ bufReadBytes s.rxBuf 0 s.rxLen.toNat = some b := by
  unfold State.rxFrame at h
  split at h
  · cases h
  · split at h
    · cases h
    · cases h
      exact ⟨by omega, ‹_›⟩

/-- A stage that can read its bytes answers a next state; only the datapath changes. -/
theorem runStage_of_ok {α : Type} {s : State} {b : List Byte} (h : s.rxFrame = .ok b)
    (stage : List Byte → Except DecErr α) (upd : Frame → α → Frame) :
    runStage s stage upd = .next (s.setDp (s.dp.staged (stage b) upd)) := by
  simp only [runStage, h]

/-- A stage that cannot read its bytes faults. -/
theorem runStage_of_error {α : Type} {s : State} {e : Fault} (h : s.rxFrame = .error e)
    (stage : List Byte → Except DecErr α) (upd : Frame → α → Frame) : runStage s stage upd = .fault e := by
  simp only [runStage, h]

/-- Whatever a stage answers, only the datapath changed. -/
theorem runStage_next {α : Type} {s t : State} {stage : List Byte → Except DecErr α} {upd : Frame → α → Frame}
    (h : runStage s stage upd = .next t) : ∃ d, t = s.setDp d := by
  unfold runStage at h
  split at h
  · cases h
  · cases h
    exact ⟨_, rfl⟩

/-! ## The race -/

/-- There is no winner exactly when neither latch is set. -/
theorem raceWinner_none {tie : ArbTie} {r k : Bool} : raceWinner tie r k = none ↔ r = false ∧ k = false := by
  cases tie <;> cases r <;> cases k <;> simp [raceWinner]

/-- A receive wins only where one has completed. -/
theorem raceWinner_rx {tie : ArbTie} {r k : Bool} (h : raceWinner tie r k = some .rx) :
    r = true ∧ (k = false ∨ tie = .rxFirst) := by
  cases tie <;> cases r <;> cases k <;> simp [raceWinner] at h ⊢

/-- A hop wins only where a tick is latched. -/
theorem raceWinner_hop {tie : ArbTie} {r k : Bool} (h : raceWinner tie r k = some .hop) :
    k = true ∧ (r = false ∨ tie = .hopFirst) := by
  cases tie <;> cases r <;> cases k <;> simp [raceWinner] at h ⊢

/-- What the race's step can do: hold, let the receive win, or let the hop win. -/
theorem execSRacing_next {s t : State} (h : execSRacing s = .next t) :
    (s.rxDonePending = false ∧ s.tickPending = false ∧ t = s) ∨
    (s.rxDonePending = true ∧ (s.tickPending = false ∨ Config.arbTie = .rxFirst) ∧ t = s.rxWins) ∨
    (s.tickPending = true ∧ (s.rxDonePending = false ∨ Config.arbTie = .hopFirst) ∧ t = s.hopWins) := by
  unfold execSRacing at h
  split at h
  · rename_i hw
    cases h
    obtain ⟨h1, h2⟩ := raceWinner_none.1 hw
    exact .inl ⟨h1, h2, rfl⟩
  · rename_i hw
    cases h
    obtain ⟨h1, h2⟩ := raceWinner_rx hw
    exact .inr (.inl ⟨h1, h2, rfl⟩)
  · rename_i hw
    cases h
    obtain ⟨h1, h2⟩ := raceWinner_hop hw
    exact .inr (.inr ⟨h1, h2, rfl⟩)

/-! ## The response port -/

/-- An RX_OK answers a next state only where it is enabled and its frame fits. -/
theorem execRxOk_next {bytes : List Byte} {s t : State} (h : execRxOk bytes s = .next t) :
    s.rxArmed = true ∧ s.rxDonePending = false ∧ bytes.length ≤ Config.maxFrameLen ∧
      t = ((s.putRxFrame bytes).setRxKind kindRxOk).setRxDone true := by
  unfold execRxOk at h
  split at h
  · cases h
  · rename_i he
    split at h
    · cases h
    · cases h
      simp only [State.rxResponseEnabled, Bool.not_eq_true', Bool.not_eq_false, Bool.and_eq_true] at he
      exact ⟨he.1, he.2, by omega, rfl⟩

theorem execRxCrc_next {crc : BitVec 16} {s t : State} (h : execRxCrc crc s = .next t) :
    s.rxArmed = true ∧ s.rxDonePending = false ∧
      t = { (s.dropRxFrame.setRxKind kindRxCrc).setRxDone true with rxCrc := crc } := by
  unfold execRxCrc at h
  split at h
  · cases h
  · rename_i he
    cases h
    simp only [State.rxResponseEnabled, Bool.not_eq_true', Bool.not_eq_false, Bool.and_eq_true] at he
    exact ⟨he.1, he.2, rfl⟩

theorem execRxErr_next {err : BitVec 8} {s t : State} (h : execRxErr err s = .next t) :
    s.rxArmed = true ∧ s.rxDonePending = false ∧
      t = { (s.dropRxFrame.setRxKind kindRxErr).setRxDone true with rxErr := err } := by
  unfold execRxErr at h
  split at h
  · cases h
  · rename_i he
    cases h
    simp only [State.rxResponseEnabled, Bool.not_eq_true', Bool.not_eq_false, Bool.and_eq_true] at he
    exact ⟨he.1, he.2, rfl⟩

theorem execTxOk_next {s t : State} (h : execTxOk s = .next t) :
    s.txInflight = true ∧ s.txDonePending = false ∧ t = (s.setTxKind kindTxOk).setTxDone true := by
  unfold execTxOk at h
  split at h
  · cases h
  · rename_i he
    cases h
    simp only [State.txResponseEnabled, Bool.not_eq_true', Bool.not_eq_false, Bool.and_eq_true] at he
    exact ⟨he.1, he.2, rfl⟩

theorem execTxErr_next {err : BitVec 8} {s t : State} (h : execTxErr err s = .next t) :
    s.txInflight = true ∧ s.txDonePending = false ∧
      t = { (s.setTxKind kindTxErr).setTxDone true with txErr := err } := by
  unfold execTxErr at h
  split at h
  · cases h
  · rename_i he
    cases h
    simp only [State.txResponseEnabled, Bool.not_eq_true', Bool.not_eq_false, Bool.and_eq_true] at he
    exact ⟨he.1, he.2, rfl⟩

/-! ## The FSM's step and its other states -/

/-- S_RX answers a next state only where its report can be made. -/
theorem execSRx_next {s t : State} (h : execSRx s = .next t) :
    ∃ e, s.rxReport = .ok e ∧ t = ((s.emitOpt e).setRxDone false).goto stQuiet := by
  unfold execSRx at h
  split at h
  · cases h
  · cases h
    exact ⟨_, ‹_›, rfl⟩

/-- What S_HOP_TXWAIT can do: report and go on, or hold. -/
theorem execSHopTxwait_next {s t : State} (h : execSHopTxwait s = .next t) :
    (s.txDonePending = true ∧
      t = ((((s.emit s.txReport).setSeq (s.seq + 1)).setTxInflight false).setTxDone false).goto stQuiet) ∨
    (s.txDonePending = false ∧ t = s) := by
  unfold execSHopTxwait at h
  split at h
  · cases h
    exact .inl ⟨‹_›, rfl⟩
  · cases h
    exact .inr ⟨Bool.eq_false_iff.2 ‹_›, rfl⟩

/-- The FSM's step is the one its state register selects. -/
theorem fsmMove_cases (s : State) :
    (s.st = stInit ∧ fsmMove s = execSInit s) ∨ (s.st = stIdle ∧ fsmMove s = execSIdle s) ∨
    (s.st = stRacing ∧ fsmMove s = execSRacing s) ∨ (s.st = stRx ∧ fsmMove s = execSRx s) ∨
    (s.st = stHopPrep ∧ fsmMove s = execSHopPrep s) ∨ (s.st = stHopTxwait ∧ fsmMove s = execSHopTxwait s) ∨
    (s.st = stQuiet ∧ fsmMove s = execSQuiet s) ∨ (s.st = stReserved ∧ fsmMove s = execStReserved s) := by
  have hs : s.st = 0 ∨ s.st = 1 ∨ s.st = 2 ∨ s.st = 3 ∨ s.st = 4 ∨ s.st = 5 ∨ s.st = 6 ∨ s.st = 7 := by
    generalize s.st = x
    revert x
    decide
  rcases hs with h | h | h | h | h | h | h | h <;>
    simp [stInit, stIdle, stRacing, stRx, stHopPrep, stHopTxwait, stQuiet, stReserved, fsmMove, runWord,
      State.stateWord, h, decode, Format.bytes, leNat, decodeState, Except.map, exec]

/-! ## The schedule -/

/-- A word that answers a next state decodes, and its operation answers it. -/
theorem runWord_next {fmt : Format} {bytes : List Byte} {s t : State} (h : runWord fmt bytes s = .next t) :
    ∃ i rest, decode fmt bytes = .ok (i, rest) ∧ exec i s = .next t := by
  unfold runWord at h
  split at h
  · exact ⟨_, _, ‹_›, h⟩
  · cases h

/-- A radio response word is one of the five responses or a reserved kind. -/
theorem decode_radioRsp {bytes rest : List Byte} {i : Instr} (h : decode .radioRsp bytes = .ok (i, rest)) :
    (∃ b, i = .rxOk b) ∨ (∃ c, i = .rxCrc c) ∨ (∃ k, i = .rxErr k) ∨ i = .txOk ∨ (∃ k, i = .txErr k) ∨
      ∃ k, i = .rspReserved k := by
  unfold decode at h
  split at h
  · cases h
  · simp only [decodeRrsp] at h
    split at h
    · simp only [Except.map] at h
      split at h
      · cases h
      · cases h; exact .inl ⟨_, rfl⟩
    · cases h; exact .inr (.inl ⟨_, rfl⟩)
    · cases h; exact .inr (.inr (.inl ⟨_, rfl⟩))
    · cases h; exact .inr (.inr (.inr (.inl rfl)))
    · cases h; exact .inr (.inr (.inr (.inr (.inl ⟨_, rfl⟩))))
    · cases h; exact .inr (.inr (.inr (.inr (.inr ⟨_, rfl⟩))))

/-- HOPTMR's word is TICK. -/
theorem decode_tick {fmt : Format} {bytes : List Byte} (h : (Item.op fmt bytes).isTick = true) :
    ∃ rest, decode fmt bytes = .ok (.tick, rest) := by
  cases fmt <;> simp only [Item.isTick, Bool.false_eq_true] at h
  cases bytes with
  | nil => simp at h
  | cons b bs =>
    obtain rfl : b = 6 := by simpa using h
    exact ⟨bs, by simp [decode, Format.bytes, leNat, decodeIop, Except.map]⟩

/-- A collaborator's word that answers a next state is an enabled response, or a tick. -/
theorem runWord_agent_next {fmt : Format} {bytes : List Byte} {s t : State}
    (ha : (Item.op fmt bytes).isAgent = true) (h : runWord fmt bytes s = .next t) :
    (∃ b, execRxOk b s = .next t) ∨ (∃ c, execRxCrc c s = .next t) ∨ (∃ k, execRxErr k s = .next t) ∨
      execTxOk s = .next t ∨ (∃ k, execTxErr k s = .next t) ∨ (fmt = .internalOp ∧ t = s.setTick true) := by
  by_cases hf : fmt = .radioRsp
  · subst hf
    obtain ⟨i, rest, hd, he⟩ := runWord_next h
    rcases decode_radioRsp hd with ⟨b, rfl⟩ | ⟨c, rfl⟩ | ⟨k, rfl⟩ | rfl | ⟨k, rfl⟩ | ⟨k, rfl⟩
    · exact .inl ⟨b, he⟩
    · exact .inr (.inl ⟨c, he⟩)
    · exact .inr (.inr (.inl ⟨k, he⟩))
    · exact .inr (.inr (.inr (.inl he)))
    · exact .inr (.inr (.inr (.inr (.inl ⟨k, he⟩))))
    · simp [exec, execRspReserved] at he
  · have ht : (Item.op fmt bytes).isTick = true := by
      cases fmt <;> first | exact ha | exact absurd rfl hf
    obtain ⟨rest, hd⟩ := decode_tick ht
    simp only [runWord, hd, exec, execTick] at h
    cases h
    refine .inr (.inr (.inr (.inr (.inr ⟨?_, rfl⟩))))
    cases fmt <;> simp [Item.isTick] at ht ⊢

/-- What one item can do, where it answers a next state: a reset, the FSM's move, a wait, or a word. -/
theorem runNext_next {it : Item} {s t : State} (h : runNext it s = .next t) :
    (it = .reset ∧ t = s.applyReset) ∨
    (s.st ≠ stReserved ∧ ((it = .fsm ∧ fsmMove s = .next t) ∨
      (it = .step ∧ s.fsmEnabled = true ∧ fsmMove s = .next t) ∨
      (it = .run ∧ s.fsmEnabled = true ∧ fsmMove (s.setAgenda (.run :: s.agenda)) = .next t) ∨
      (it = .run ∧ s.fsmEnabled = false ∧ t = s) ∨
      ∃ fmt bytes, it = .op fmt bytes ∧ runWord fmt bytes s = .next t)) := by
  unfold runNext at h
  split at h
  · cases h
  · rename_i hs
    cases it with
    | reset => cases h; exact .inl ⟨rfl, rfl⟩
    | fsm => exact .inr ⟨by simpa using hs, .inl ⟨rfl, h⟩⟩
    | step =>
      simp only [runItem] at h
      split at h
      · exact .inr ⟨by simpa using hs, .inr (.inl ⟨rfl, ‹_›, h⟩)⟩
      · cases h
    | run =>
      simp only [runItem] at h
      split at h
      · exact .inr ⟨by simpa using hs, .inr (.inr (.inl ⟨rfl, ‹_›, h⟩))⟩
      · cases h
        exact .inr ⟨by simpa using hs, .inr (.inr (.inr (.inl ⟨rfl, Bool.eq_false_iff.2 ‹_›, rfl⟩)))⟩
    | op fmt bytes => exact .inr ⟨by simpa using hs, .inr (.inr (.inr (.inr ⟨fmt, bytes, rfl, h⟩)))⟩

/-- A step runs the agenda's head, or the FSM where there is none. -/
theorem step_cases (s : State) :
    (s.agenda = [] ∧ step s = runNext .fsm s) ∨
    ∃ it rest, s.agenda = it :: rest ∧ step s = runNext it (s.setAgenda rest) := by
  unfold step
  split
  · exact .inl ⟨‹_›, rfl⟩
  · exact .inr ⟨_, _, ‹_›, rfl⟩

end Sys2Proof.Machine
end

