-- ==== Sys2Proof/Laws/PerInstr.lean ====
section
/-! SUPPORT. The statements made once per operation of the table. -/

namespace Sys2Proof.Laws

/-- The encoder lays out exactly the bytes of the row's format, and the bytes handed over with the word after them
(30_encoding.md R86, R88, R90). -/
def EncodeLength.Statement (i : Instr) : Prop :=
  (encode i).length = i.format.bytes + (encodePayload i).length

/-- Every row at once. -/
theorem length_encode (i : Instr) : EncodeLength.Statement i := by
  simp [EncodeLength.Statement, Sys2Proof.encode]

theorem EncodeLength.frameBeacon (f : Fcf) : EncodeLength.Statement (.frameBeacon f) := length_encode _

theorem EncodeLength.frameData (f : Fcf) : EncodeLength.Statement (.frameData f) := length_encode _

theorem EncodeLength.frameAck (f : Fcf) : EncodeLength.Statement (.frameAck f) := length_encode _

theorem EncodeLength.frameCommand (f : Fcf) : EncodeLength.Statement (.frameCommand f) := length_encode _

theorem EncodeLength.frameTypeReserved (f : Fcf) : EncodeLength.Statement (.frameTypeReserved f) := length_encode _

theorem EncodeLength.dstNone (f : Fcf) : EncodeLength.Statement (.dstNone f) := length_encode _

theorem EncodeLength.dstModeReserved (f : Fcf) : EncodeLength.Statement (.dstModeReserved f) := length_encode _

theorem EncodeLength.dstShort (f : Fcf) : EncodeLength.Statement (.dstShort f) := length_encode _

theorem EncodeLength.dstExt (f : Fcf) : EncodeLength.Statement (.dstExt f) := length_encode _

theorem EncodeLength.srcNone (f : Fcf) : EncodeLength.Statement (.srcNone f) := length_encode _

theorem EncodeLength.srcModeReserved (f : Fcf) : EncodeLength.Statement (.srcModeReserved f) := length_encode _

theorem EncodeLength.srcShort (f : Fcf) : EncodeLength.Statement (.srcShort f) := length_encode _

theorem EncodeLength.srcExt (f : Fcf) : EncodeLength.Statement (.srcExt f) := length_encode _

theorem EncodeLength.version2003 (f : Fcf) : EncodeLength.Statement (.version2003 f) := length_encode _

theorem EncodeLength.version2006 (f : Fcf) : EncodeLength.Statement (.version2006 f) := length_encode _

theorem EncodeLength.versionReserved (f : Fcf) : EncodeLength.Statement (.versionReserved f) := length_encode _

theorem EncodeLength.cmdBeaconRequest : EncodeLength.Statement .cmdBeaconRequest := length_encode _

theorem EncodeLength.cmdOther (cid : BitVec 8) : EncodeLength.Statement (.cmdOther cid) := length_encode _

theorem EncodeLength.tune (chan : BitVec 5) : EncodeLength.Statement (.tune chan) := length_encode _

theorem EncodeLength.rxStart : EncodeLength.Statement .rxStart := length_encode _

theorem EncodeLength.rxAbort : EncodeLength.Statement .rxAbort := length_encode _

theorem EncodeLength.txStart (len : BitVec 7) : EncodeLength.Statement (.txStart len) := length_encode _

theorem EncodeLength.rxOk (bytes : List Byte) : EncodeLength.Statement (.rxOk bytes) := length_encode _

theorem EncodeLength.rxCrc (crc : BitVec 16) : EncodeLength.Statement (.rxCrc crc) := length_encode _

theorem EncodeLength.rxErr (err : BitVec 8) : EncodeLength.Statement (.rxErr err) := length_encode _

theorem EncodeLength.txOk : EncodeLength.Statement .txOk := length_encode _

theorem EncodeLength.txErr (err : BitVec 8) : EncodeLength.Statement (.txErr err) := length_encode _

theorem EncodeLength.rspReserved (kind : BitVec 3) : EncodeLength.Statement (.rspReserved kind) := length_encode _

theorem EncodeLength.beaconObserved (chan : BitVec 5) (pan : BitVec 16) (smode : BitVec 2) (saddr : BitVec 64) (coord join : Bool) : EncodeLength.Statement (.beaconObserved chan pan smode saddr coord join) := length_encode _

theorem EncodeLength.decodeError (chan : BitVec 5) (code : BitVec 8) (raw : List Byte) : EncodeLength.Statement (.decodeError chan code raw) := length_encode _

theorem EncodeLength.linkQualityFault (chan : BitVec 5) (crc : BitVec 16) : EncodeLength.Statement (.linkQualityFault chan crc) := length_encode _

theorem EncodeLength.receiveFault (chan : BitVec 5) (kind : BitVec 8) : EncodeLength.Statement (.receiveFault chan kind) := length_encode _

theorem EncodeLength.requestSent (chan : BitVec 5) (seq : BitVec 8) : EncodeLength.Statement (.requestSent chan seq) := length_encode _

theorem EncodeLength.transmitFault (chan : BitVec 5) (seq : BitVec 8) (kind : BitVec 8) : EncodeLength.Statement (.transmitFault chan seq kind) := length_encode _

theorem EncodeLength.eventReserved (code : BitVec 3) : EncodeLength.Statement (.eventReserved code) := length_encode _

theorem EncodeLength.sInit : EncodeLength.Statement .sInit := length_encode _

theorem EncodeLength.sIdle : EncodeLength.Statement .sIdle := length_encode _

theorem EncodeLength.sRacing : EncodeLength.Statement .sRacing := length_encode _

theorem EncodeLength.sRx : EncodeLength.Statement .sRx := length_encode _

theorem EncodeLength.sHopPrep : EncodeLength.Statement .sHopPrep := length_encode _

theorem EncodeLength.sHopTxwait : EncodeLength.Statement .sHopTxwait := length_encode _

theorem EncodeLength.sQuiet : EncodeLength.Statement .sQuiet := length_encode _

theorem EncodeLength.stReserved : EncodeLength.Statement .stReserved := length_encode _

theorem EncodeLength.current : EncodeLength.Statement .current := length_encode _

theorem EncodeLength.advance : EncodeLength.Statement .advance := length_encode _

theorem EncodeLength.buildRequest : EncodeLength.Statement .buildRequest := length_encode _

theorem EncodeLength.encode : EncodeLength.Statement .encode := length_encode _

theorem EncodeLength.decode : EncodeLength.Statement .decode := length_encode _

theorem EncodeLength.classify : EncodeLength.Statement .classify := length_encode _

theorem EncodeLength.tick : EncodeLength.Statement .tick := length_encode _

theorem EncodeLength.iopReserved7 : EncodeLength.Statement .iopReserved7 := length_encode _

theorem EncodeLength.iopReserved8F (iop : BitVec 4) : EncodeLength.Statement (.iopReserved8F iop) := length_encode _

end Sys2Proof.Laws
end

