-- ==== Sys2Proof/Tests/Slice0.lean ====
section
/-! SUPPORT. Tests of the model. Every expected value is a vector of spec/95_test_vectors.md (named in the test's
docstring) or is worked out by hand from the rule the docstring names; the words are written out from
spec/30_encoding.md. The witnesses at the end show states and operands that meet the hypotheses of each statement of
Certificates/Slice0/Obligations.lean. -/

namespace Sys2Proof.Tests

open Sys2Proof Sys2Proof.Machine

set_option Elab.async false

/-! ## Helpers -/

/-- The next state, if there is one. -/
def after : Host.Outcome State Fault Refusal → Option State
  | .next s => some s
  | .fault _ => none
  | .refused _ => none

/-- The fault, if there is one. -/
def faultOf : Host.Outcome State Fault Refusal → Option Fault
  | .next _ => none
  | .fault r => some r
  | .refused _ => none

/-- The refusal, if there is one. -/
def refusalOf : Host.Outcome State Fault Refusal → Option Refusal
  | .next _ => none
  | .fault _ => none
  | .refused r => some r

/-- What a format's decoder reads. -/
def read (fmt : Format) (bytes : List Byte) : Option (Instr × List Byte) := (decode fmt bytes).toOption

/-- Why a format's decoder rejects. -/
def rejectOf (fmt : Format) (bytes : List Byte) : Option DecodeReject :=
  match decode fmt bytes with
  | .ok _ => none
  | .error r => some r

/-- The error a decode ends in. -/
def errorOf (b : List Byte) : Option DecErr :=
  match decodeFrame b with
  | .ok _ => none
  | .error e => some e

/-- The reset state with another state code. -/
def at_ (st : BitVec 3) : State := { State.reset with st := st }

/-- The reset state with these received bytes. -/
def holding (b : List Byte) : State := State.putRxFrame State.reset b

/-- An FCF with everything 0 but the selectors. -/
def fcf (ftype : BitVec 3) (dst src : BitVec 2) (pidc : Bool) : Fcf :=
  { ftype := ftype, sec := false, pend := false, ackreq := false, pidc := pidc, resv := 0, dstMode := dst, fver := 0
    srcMode := src }

/-- V-B1. -/
def vB1 : List Byte := [0x00, 0x80, 0x2A, 0x34, 0x12, 0x78, 0x56, 0xFF, 0x4F, 0x00, 0x00]

/-- V-B2. -/
def vB2 : List Byte :=
  [0x00, 0xC0, 0x01, 0xCD, 0xAB, 0xEF, 0xCD, 0xAB, 0x89, 0x67, 0x45, 0x23, 0x01, 0x00, 0x80, 0x00, 0x00, 0xDE, 0xAD]

/-- V-B3. -/
def vB3 : List Byte :=
  [0x00, 0x80, 0x03, 0x34, 0x12, 0x78, 0x56, 0xFF, 0x4F, 0x81, 0x01, 0x34, 0x12, 0x21, 0x11, 0x01, 0x00, 0x11, 0x12,
   0x13, 0x14, 0x15, 0x16, 0x17, 0x18]

/-- V-C1. -/
def vC1 : List Byte := [0x03, 0x08, 0x00, 0xFF, 0xFF, 0xFF, 0xFF, 0x07]

/-- V-C2. -/
def vC2 : List Byte :=
  [0x43, 0xC8, 0x09, 0x34, 0x12, 0x00, 0x00, 0xEF, 0xCD, 0xAB, 0x89, 0x67, 0x45, 0x23, 0x01, 0x04]

/-- V-D1. -/
def vD1 : List Byte := [0x41, 0x88, 0x10, 0x34, 0x12, 0x01, 0x00, 0x02, 0x00, 0xAA, 0xBB]

/-- The beacon record of 95_test_vectors.md 2.3. -/
def beaconRecord : Frame :=
  { ftype := 0, sec := false, pend := false, ackreq := false, pidc := false, fver := 0, seq := 1, dst := Addr.none
    src := Addr.ext 0xABCD 0x0123456789ABCDEF, content := .beacon 0x8000 0 0 0, pl := [0xDE, 0xAD] }

/-- The data record of 95_test_vectors.md 2.3. -/
def dataRecord : Frame :=
  { ftype := 1, sec := false, pend := false, ackreq := false, pidc := true, fver := 0, seq := 0x10
    dst := Addr.short 0x1234 0x0001, src := Addr.short 0x1234 0x0002, content := .data, pl := [0xAA, 0xBB] }

/-- The acknowledgment record of 95_test_vectors.md 2.3. -/
def ackRecord : Frame :=
  { ftype := 2, sec := false, pend := false, ackreq := false, pidc := false, fver := 0, seq := 5, dst := Addr.none
    src := Addr.none, content := .other, pl := [] }

/-- A state whose datapath holds a record. -/
def withRecord (f : Frame) : State := State.reset.setDp { Datapath.reset with frame := f }

/-! ## Ill-formed terms, one for each check -/

/-- A row under an FCF selector with another selector value (30_encoding.md R72, R73, R74). -/
theorem test_wf_refuses_selectors :
    (Instr.frameBeacon (fcf 1 0 0 false)).WellFormed = false ∧ (Instr.frameData (fcf 0 0 0 false)).WellFormed = false ∧
    (Instr.frameAck (fcf 3 0 0 false)).WellFormed = false ∧ (Instr.frameCommand (fcf 7 0 0 false)).WellFormed = false ∧
    (Instr.frameTypeReserved (fcf 3 0 0 false)).WellFormed = false ∧
    (Instr.dstNone (fcf 0 1 0 false)).WellFormed = false ∧ (Instr.dstModeReserved (fcf 0 0 1 false)).WellFormed = false ∧
    (Instr.dstShort (fcf 0 3 2 false)).WellFormed = false ∧ (Instr.dstExt (fcf 0 2 3 false)).WellFormed = false ∧
    (Instr.srcNone (fcf 0 0 1 false)).WellFormed = false ∧ (Instr.srcModeReserved (fcf 0 1 0 false)).WellFormed = false ∧
    (Instr.srcShort (fcf 0 2 3 false)).WellFormed = false ∧ (Instr.srcExt (fcf 0 3 2 false)).WellFormed = false ∧
    (Instr.version2003 { fcf 0 0 0 false with fver := 1 }).WellFormed = false ∧
    (Instr.version2006 { fcf 0 0 0 false with fver := 0 }).WellFormed = false ∧
    (Instr.versionReserved { fcf 0 0 0 false with fver := 1 }).WellFormed = false := by decide

/-- The beacon request is no other command (R83). -/
theorem test_wf_refuses_other_command_7 : (Instr.cmdOther 7).WellFormed = false := by decide

/-- A channel outside 11 to 26 (R86, R90). -/
theorem test_wf_refuses_channels :
    (Instr.tune 10).WellFormed = false ∧ (Instr.tune 27).WellFormed = false ∧
    (Instr.beaconObserved 27 0 3 0 false false).WellFormed = false ∧ (Instr.decodeError 10 1 []).WellFormed = false ∧
    (Instr.linkQualityFault 0 0).WellFormed = false ∧ (Instr.receiveFault 27 0).WellFormed = false ∧
    (Instr.requestSent 10 0).WellFormed = false ∧ (Instr.transmitFault 31 0 0).WellFormed = false := by decide

/-- A frame of 126 bytes (R86, R88, R90). -/
theorem test_wf_refuses_lengths :
    (Instr.txStart 126).WellFormed = false ∧ (Instr.rxOk (List.replicate 126 0)).WellFormed = false ∧
    (Instr.decodeError 11 1 (List.replicate 126 0)).WellFormed = false := by decide +kernel

/-- An observation without a source, or with a short address past 16 bits (R90). -/
theorem test_wf_refuses_observed_sources :
    (Instr.beaconObserved 11 0 0 0 false false).WellFormed = false ∧
    (Instr.beaconObserved 11 0 1 0 false false).WellFormed = false ∧
    (Instr.beaconObserved 11 0 2 0x10000 false false).WellFormed = false := by decide

/-- A decode error code that is never produced (R92). -/
theorem test_wf_refuses_error_codes :
    (Instr.decodeError 11 0 []).WellFormed = false ∧ (Instr.decodeError 11 7 []).WellFormed = false := by decide

/-- A reserved row with a code that is none (R89, R91, R93). -/
theorem test_wf_refuses_unreserved_codes :
    (Instr.rspReserved 4).WellFormed = false ∧ (Instr.eventReserved 5).WellFormed = false ∧
    (Instr.iopReserved8F 7).WellFormed = false := by decide

/-! ## Words written out from the encodings, one for each constructor -/

/-- Frame types (30_encoding.md R71, R72): low byte 0x00 beacon, 0x41 data compressed, 0x02, 0x03, 0x07; high byte 0x80
source short, 0x88 both short, 0x08 destination short (FCFs of V-B1, V-D1, V-A1, V-C1, V-E11). -/
theorem test_decode_frame_types :
    read .fcfFrameType [0x00, 0x80] = some (.frameBeacon (fcf 0 0 2 false), []) ∧
    read .fcfFrameType [0x41, 0x88] = some (.frameData (fcf 1 2 2 true), []) ∧
    read .fcfFrameType [0x02, 0x00] = some (.frameAck (fcf 2 0 0 false), []) ∧
    read .fcfFrameType [0x03, 0x08] = some (.frameCommand (fcf 3 2 0 false), []) ∧
    read .fcfFrameType [0x07, 0x00] = some (.frameTypeReserved (fcf 7 0 0 false), []) := by decide

/-- Destination modes (R71 bits 11:10, R73): 0x00, 0x04, 0x08, 0x0C in the high byte. -/
theorem test_decode_dst_modes :
    read .fcfDstAddrMode [0x00, 0x00] = some (.dstNone (fcf 0 0 0 false), []) ∧
    read .fcfDstAddrMode [0x01, 0x04] = some (.dstModeReserved (fcf 1 1 0 false), []) ∧
    read .fcfDstAddrMode [0x03, 0x08] = some (.dstShort (fcf 3 2 0 false), []) ∧
    read .fcfDstAddrMode [0x00, 0x0C] = some (.dstExt (fcf 0 3 0 false), []) := by decide

/-- Source modes (R71 bits 15:14, R73): 0x00, 0x40, 0x80, 0xC0 in the high byte. -/
theorem test_decode_src_modes :
    read .fcfSrcAddrMode [0x03, 0x08] = some (.srcNone (fcf 3 2 0 false), []) ∧
    read .fcfSrcAddrMode [0x01, 0x40] = some (.srcModeReserved (fcf 1 0 1 false), []) ∧
    read .fcfSrcAddrMode [0x00, 0x80] = some (.srcShort (fcf 0 0 2 false), []) ∧
    read .fcfSrcAddrMode [0x43, 0xC8] = some (.srcExt (fcf 3 2 3 true), []) := by decide

/-- Versions (R71 bits 13:12, R74): 0x00, 0x10, 0x20 and 0x30 in the high byte. -/
theorem test_decode_versions :
    read .fcfFrameVersion [0x03, 0x08] = some (.version2003 (fcf 3 2 0 false), []) ∧
    read .fcfFrameVersion [0x03, 0x18] = some (.version2006 { fcf 3 2 0 false with fver := 1 }, []) ∧
    read .fcfFrameVersion [0x01, 0x20] = some (.versionReserved { fcf 1 0 0 false with fver := 2 }, []) ∧
    read .fcfFrameVersion [0x03, 0x38] = some (.versionReserved { fcf 3 2 0 false with fver := 3 }, []) := by decide

/-- The other bits of an FCF (R71): security 3, pending 4, ack request 5, compression 6, reserved 9:7 (V-B5's 0x8380). -/
theorem test_decode_fcf_bits :
    read .fcfFrameType [0x08, 0x00] = some (.frameBeacon { fcf 0 0 0 false with sec := true }, []) ∧
    read .fcfFrameType [0x10, 0x00] = some (.frameBeacon { fcf 0 0 0 false with pend := true }, []) ∧
    read .fcfFrameType [0x20, 0x00] = some (.frameBeacon { fcf 0 0 0 false with ackreq := true }, []) ∧
    read .fcfFrameType [0x40, 0x00] = some (.frameBeacon (fcf 0 0 0 true), []) ∧
    read .fcfFrameType [0x80, 0x83] = some (.frameBeacon { fcf 0 0 2 false with resv := 7 }, []) := by decide

/-- Command identifiers (R83). -/
theorem test_decode_command_ids :
    read .macCommandId [0x07] = some (.cmdBeaconRequest, []) ∧ read .macCommandId [0x04] = some (.cmdOther 4, []) ∧
    read .macCommandId [0xFF] = some (.cmdOther 0xFF, []) := by decide

/-- Radio commands (95_test_vectors.md 2.6), and reserved bits set (R94). -/
theorem test_decode_radio_commands :
    read .radioCmd [0x00, 0x0B, 0x00, 0x00] = some (.tune 11, []) ∧
    read .radioCmd [0x00, 0x1A, 0x00, 0x00] = some (.tune 26, []) ∧
    read .radioCmd [0x01, 0x00, 0x00, 0x00] = some (.rxStart, []) ∧
    read .radioCmd [0x02, 0x00, 0x00, 0x00] = some (.rxAbort, []) ∧
    read .radioCmd [0x03, 0x00, 0x08, 0x00] = some (.txStart 8, []) ∧
    read .radioCmd [0xFC, 0xEB, 0x80, 0xFF] = some (.tune 11, []) := by decide

/-- Radio responses (95_test_vectors.md 2.6), and the reserved kinds (R89). -/
theorem test_decode_radio_responses :
    read .radioRsp [0x00, 0x01, 0x00, 0x00, 0x00, 0x00, 0x41, 0x42] = some (.rxOk [0x41], [0x42]) ∧
    read .radioRsp [0x01, 0x00, 0x00, 0x00, 0xEF, 0xBE] = some (.rxCrc 0xBEEF, []) ∧
    read .radioRsp [0x02, 0x00, 0x05, 0x00, 0x00, 0x00] = some (.rxErr 5, []) ∧
    read .radioRsp [0x03, 0x00, 0x00, 0x00, 0x00, 0x00] = some (.txOk, []) ∧
    read .radioRsp [0x04, 0x00, 0x01, 0x00, 0x00, 0x00] = some (.txErr 1, []) ∧
    read .radioRsp [0x05, 0x00, 0x00, 0x00, 0x00, 0x00] = some (.rspReserved 5, []) ∧
    read .radioRsp [0x07, 0x00, 0x00, 0x00, 0x00, 0x00] = some (.rspReserved 7, []) := by decide

/-- Event records (95_test_vectors.md 2.6, each EVT lo and hi in bytes). -/
theorem test_decode_events :
    read .event [0x58, 0x00, 0x34, 0x12, 0x06, 0x00, 0x00, 0x00, 0x78, 0x56, 0, 0, 0, 0, 0, 0] =
      some (.beaconObserved 11 0x1234 2 0x5678 true false, []) ∧
    read .event [0x59, 0x00, 0x00, 0x00, 0x10, 0x10, 0x00, 0x00, 0, 0, 0, 0, 0, 0, 0, 0, 0x41] =
      some (.decodeError 11 1 [0x41], []) ∧
    read .event [0x5A, 0x00, 0xEF, 0xBE, 0x00, 0x00, 0x00, 0x00, 0, 0, 0, 0, 0, 0, 0, 0] =
      some (.linkQualityFault 11 0xBEEF, []) := by decide

/-- The other event records (95_test_vectors.md 2.6), and a reserved code (R91). -/
theorem test_decode_events_of_faults :
    read .event [0x5B, 0x00, 0x00, 0x00, 0x50, 0x00, 0x00, 0x00, 0, 0, 0, 0, 0, 0, 0, 0] = some (.receiveFault 11 5, []) ∧
    read .event [0x6C, 0x01, 0x00, 0x00, 0x00, 0x00, 0x00, 0x00, 0, 0, 0, 0, 0, 0, 0, 0] = some (.requestSent 13 1, []) ∧
    read .event [0x65, 0x00, 0x00, 0x00, 0x10, 0x00, 0x00, 0x00, 0, 0, 0, 0, 0, 0, 0, 0] =
      some (.transmitFault 12 0 1, []) ∧
    read .event [0x06, 0x00, 0x00, 0x00, 0x00, 0x00, 0x00, 0x00, 0, 0, 0, 0, 0, 0, 0, 0] = some (.eventReserved 6, []) := by
  decide

/-- State codes (10_state.md R21, R22). -/
theorem test_decode_states :
    read .fsmState [0] = some (.sInit, []) ∧ read .fsmState [1] = some (.sIdle, []) ∧
    read .fsmState [2] = some (.sRacing, []) ∧ read .fsmState [3] = some (.sRx, []) ∧
    read .fsmState [4] = some (.sHopPrep, []) ∧ read .fsmState [5] = some (.sHopTxwait, []) ∧
    read .fsmState [6] = some (.sQuiet, []) ∧ read .fsmState [7] = some (.stReserved, []) := by decide

/-- Operation codes (30_encoding.md R93). -/
theorem test_decode_operations :
    read .internalOp [0] = some (.current, []) ∧ read .internalOp [1] = some (.advance, []) ∧
    read .internalOp [2] = some (.buildRequest, []) ∧ read .internalOp [3] = some (.encode, []) ∧
    read .internalOp [4] = some (.decode, []) ∧ read .internalOp [5] = some (.classify, []) ∧
    read .internalOp [6] = some (.tick, []) ∧ read .internalOp [7] = some (.iopReserved7, []) ∧
    read .internalOp [8] = some (.iopReserved8F 8, []) ∧ read .internalOp [15] = some (.iopReserved8F 15, []) := by decide

/-- The encoder writes the words of 95_test_vectors.md 2.6. -/
theorem test_encode_words :
    encode (.txStart 8) = [0x03, 0x00, 0x08, 0x00] ∧ encode (.rxCrc 0xBEEF) = [0x01, 0x00, 0x00, 0x00, 0xEF, 0xBE] ∧
    encode (.rxOk [0x41]) = [0x00, 0x01, 0x00, 0x00, 0x00, 0x00, 0x41] ∧
    encode (.transmitFault 12 0 1) = [0x65, 0, 0, 0, 0x10, 0, 0, 0, 0, 0, 0, 0, 0, 0, 0, 0] := by decide

/-- Bytes that are no word are rejected by name. -/
theorem test_decode_rejects :
    rejectOf .radioCmd [0, 0, 0] = some .truncatedWord ∧ rejectOf .fsmState [8] = some .strayBits ∧
    rejectOf .internalOp [16] = some .strayBits ∧
    rejectOf .radioRsp [0x00, 0x02, 0, 0, 0, 0, 0x41] = some .truncatedPayload := by decide

/-- The table has its 52 rows (spec/opcode_table.json). -/
theorem test_table_length : opcodeTable.length = 52 := by decide

/-- Table words come back as the rows they are written for (30_encoding.md R86 to R93). -/
theorem test_table_words :
    decodeTableWord 16 0x8000 = some (.srcShort (fcf 0 0 2 false)) ∧ decodeTableWord 32 3 = some (.txStart 0) ∧
    decodeTableWord 48 3 = some .txOk ∧ decodeTableWord 128 4 = some (.requestSent 0 0) ∧
    decodeTableWord 8 5 = some .sHopTxwait ∧ decodeTableWord 8 8 = some (.iopReserved8F 8) := by decide +kernel

/-! ## Frames -/

/-- V-B1, V-B3, V-B5: the beacons of 95_test_vectors.md 2.4, the second with a GTS descriptor and pending addresses, the
third with reserved FCF bits set. -/
theorem test_decode_beacons :
    (decodeFrame vB1).toOption.map (fun f => (f.seq, f.dst, f.src, f.content, f.pl)) =
      some (0x2A, Addr.none, Addr.short 0x1234 0x5678, .beacon 0x4FFF 0 0 0, []) ∧
    (decodeFrame vB3).toOption.map (fun f => (f.seq, f.src, f.content, f.pl)) =
      some (3, Addr.short 0x1234 0x5678, .beacon 0x4FFF 1 1 1, []) ∧
    (decodeFrame [0x80, 0x83, 0x04, 0x34, 0x12, 0x78, 0x56, 0xFF, 0x4F, 0x00, 0x00]).toOption.map
      (fun f => (f.seq, f.src, f.content)) = some (4, Addr.short 0x1234 0x5678, .beacon 0x4FFF 0 0 0) := by decide +kernel

/-- V-B2, V-C2, V-D1: extended addresses, payload, compression (95_test_vectors.md 2.4). -/
theorem test_decode_addresses :
    (decodeFrame vB2).toOption = some beaconRecord ∧
    (decodeFrame vC2).toOption.map (fun f => (f.pidc, f.dst, f.src, f.content, f.pl)) =
      some (true, Addr.short 0x1234 0x0000, Addr.ext 0x1234 0x0123456789ABCDEF, .command 4, []) ∧
    (decodeFrame vD1).toOption = some dataRecord ∧ (decodeFrame [0x02, 0x00, 0x05]).toOption = some ackRecord := by
  decide +kernel

/-- V-E1, V-E2, V-E3, V-E5, V-E6, V-E7, V-E8, V-E9: truncations (95_test_vectors.md 2.4). -/
theorem test_decode_truncations :
    errorOf [] = some .truncated ∧ errorOf [0x41] = some .truncated ∧ errorOf [0x03, 0x08] = some .truncated ∧
    errorOf [0x03, 0x08, 0x05, 0x00, 0x00] = some .truncated ∧ errorOf (vB2.take 8) = some .truncated ∧
    errorOf (vB1.take 7) = some .truncated ∧ errorOf (vB1.take 10) = some .truncated ∧
    errorOf (vB3.take 24) = some .truncated := by decide +kernel

/-- V-E10, V-E12, V-E13, V-E14, V-E16, V-E17, V-E18, V-E19: the checks and their order (95_test_vectors.md 2.4). -/
theorem test_decode_checks :
    errorOf [0x04, 0x08] = some .frameType ∧
    errorOf [0x0B, 0x08, 0x00, 0xFF, 0xFF, 0xFF, 0xFF, 0x07] = some .security ∧
    errorOf [0x01, 0x04] = some .addrMode ∧ errorOf [0x01, 0x40] = some .addrMode ∧
    errorOf [0x01, 0x20] = some .version ∧ errorOf [0x03, 0x38, 0x00, 0xFF, 0xFF, 0xFF, 0xFF, 0x07] = some .version ∧
    errorOf [0x41, 0x80] = some .panidComp ∧
    errorOf [0x40, 0x80, 0x04, 0x34, 0x12, 0x78, 0x56, 0xFF, 0x4F, 0x00, 0x00] = some .panidComp := by decide +kernel

/-- The encoder's vectors (95_test_vectors.md 2.3). -/
theorem test_encode_frames :
    encodeFrame (buildRequest 0xFF 0) = [0x03, 0x08, 0xFF, 0xFF, 0xFF, 0xFF, 0xFF, 0x07] ∧
    encodeFrame (buildRequest 0x2A 1) = [0x03, 0x18, 0x2A, 0xFF, 0xFF, 0xFF, 0xFF, 0x07] ∧
    encodeFrame beaconRecord = vB2 ∧ encodeFrame dataRecord = vD1 ∧ encodeFrame ackRecord = [0x02, 0x00, 0x05] := by
  decide +kernel

/-- The refusals of 95_test_vectors.md 2.3. -/
theorem test_ill_formed_records :
    Frame.wf { dataRecord with sec := true } = false ∧
    Frame.wf { dataRecord with dst := Addr.none } = false ∧
    Frame.wf { dataRecord with src := Addr.short 0x4321 0x0002 } = false ∧
    Frame.wf { beaconRecord with content := .beacon 0x8000 1 0 0 } = false := by decide +kernel

/-! ## One step of each row -/

/-- The frame type rows on the vectors' buffers (V-B1, V-D1, V-A1, V-C2, V-E11). -/
theorem test_frame_type_rows :
    (after (exec (.frameBeacon (fcf 0 0 2 false)) (holding vB1))).map (fun t => t.dp.frame.content) =
      some (.beacon 0x4FFF 0 0 0) ∧
    (after (exec (.frameData (fcf 1 2 2 true)) (holding vD1))).map (fun t => t.dp.frame) = some dataRecord ∧
    (after (exec (.frameAck (fcf 2 0 0 false)) (holding [0x02, 0x00, 0x05]))).map (fun t => t.dp.frame) =
      some ackRecord ∧
    (after (exec (.frameCommand (fcf 3 2 3 true)) (holding vC2))).map (fun t => t.dp.frame.content) =
      some (.command 4) ∧
    (after (exec (.frameTypeReserved (fcf 7 0 0 false)) (holding [0x07, 0x00, 0x00]))).map (fun t => t.dp.derr) =
      some (some .frameType) := by decide +kernel

/-- The address rows: V-A1 has none, V-C2 a short destination and a compressed extended source; a hand-written frame has
an extended destination and a short source. -/
theorem test_address_rows :
    (after (exec (.dstNone (fcf 2 0 0 false)) (holding [0x02, 0x00, 0x05]))).map (fun t => (t.dp.frame.seq, t.dp.frame.dst)) =
      some (5, Addr.none) ∧
    (after (exec (.dstShort (fcf 3 2 3 true)) (holding vC2))).map (fun t => t.dp.frame.dst) =
      some (Addr.short 0x1234 0x0000) ∧
    (after (exec (.dstExt (fcf 1 3 0 false)) (holding [0x01, 0x0C, 0x09, 0x34, 0x12, 1, 2, 3, 4, 5, 6, 7, 8]))).map
      (fun t => t.dp.frame.dst) = some (Addr.ext 0x1234 0x0807060504030201) ∧
    (after (exec (.srcNone (fcf 3 2 0 false)) (holding vC1))).map (fun t => t.dp.frame.src) = some Addr.none ∧
    (after (exec (.srcShort (fcf 0 0 2 false)) (holding vB1))).map (fun t => t.dp.frame.src) =
      some (Addr.short 0x1234 0x5678) ∧
    (after (exec (.srcExt (fcf 3 2 3 true)) (holding vC2))).map (fun t => t.dp.frame.src) =
      some (Addr.ext 0x1234 0x0123456789ABCDEF) := by decide +kernel

/-- The reserved modes and the versions (V-E13, V-E14, V-E16, V-C1, V-C3). -/
theorem test_mode_and_version_rows :
    (after (exec (.dstModeReserved (fcf 1 1 0 false)) (holding [0x01, 0x04]))).map (fun t => t.dp.derr) =
      some (some .addrMode) ∧
    (after (exec (.srcModeReserved (fcf 1 0 1 false)) (holding [0x01, 0x40]))).map (fun t => t.dp.derr) =
      some (some .addrMode) ∧
    (after (exec (.versionReserved { fcf 1 0 0 false with fver := 2 }) (holding [0x01, 0x20]))).map (fun t => t.dp.derr) =
      some (some .version) ∧
    (after (exec (.version2003 (fcf 3 2 0 false)) (holding vC1))).map (fun t => (t.dp.derr, t.dp.frame.fver)) =
      some (none, 0) ∧
    (after (exec (.version2006 { fcf 3 2 0 false with fver := 1 }) (holding vC1))).map
      (fun t => (t.dp.derr, t.dp.frame.fver)) = some (none, 1) := by decide +kernel

/-- The command identifiers (30_encoding.md R83). -/
theorem test_command_id_rows :
    (after (exec .cmdBeaconRequest State.reset)).map (fun t => t.dp.frame.content) = some (.command 7) ∧
    (after (exec (.cmdOther 4) State.reset)).map (fun t => t.dp.frame.content) = some (.command 4) := by decide

/-- The radio commands' words in the trace (95_test_vectors.md 2.6). -/
theorem test_radio_commands :
    (after (exec (.tune 12) State.reset)).map (fun t => t.rc.map Rcmd.word) = some [0x00000C00] ∧
    (after (exec .rxStart State.reset)).map (fun t => t.rc.map Rcmd.word) = some [0x00000001] ∧
    (after (exec .rxAbort State.reset)).map (fun t => t.rc.map Rcmd.word) = some [0x00000002] ∧
    (after (exec (.txStart 8) State.reset)).map (fun t => t.rc.map Rcmd.word) = some [0x00080003] := by decide

/-- The radio's responses (95_test_vectors.md 2.8; 45_interfaces.md R215 to R219). -/
theorem test_radio_responses :
    (after (exec (.rxOk vB1) { at_ 2 with rxArmed := true })).map
      (fun t => (t.rxFrame.toOption, t.rxLen, t.rxKind, t.rxDonePending)) = some (some vB1, 11, 0, true) ∧
    (after (exec (.rxCrc 0xBEEF) { at_ 2 with rxArmed := true })).map (fun t => (t.rxKind, t.rxCrc, t.rxDonePending)) =
      some (1, 0xBEEF, true) ∧
    (after (exec (.rxErr 5) { at_ 2 with rxArmed := true })).map (fun t => (t.rxKind, t.rxErr, t.rxDonePending)) =
      some (2, 5, true) ∧
    (after (exec .txOk { at_ 5 with txInflight := true })).map (fun t => (t.txKind, t.txDonePending)) = some (3, true) ∧
    (after (exec (.txErr 1) { at_ 5 with txInflight := true })).map (fun t => (t.txKind, t.txErr, t.txDonePending)) =
      some (4, 1, true) := by decide +kernel

/-- Responses that are not enabled, and a reserved one (95_test_vectors.md 2.8; 45_interfaces.md R230). -/
theorem test_radio_responses_not_enabled :
    refusalOf (exec (.rxOk vB1) State.reset) = some .rxResponseNotEnabled ∧
    refusalOf (exec (.rxCrc 1) { at_ 2 with rxArmed := true, rxDonePending := true }) = some .rxResponseNotEnabled ∧
    refusalOf (exec (.rxErr 1) State.reset) = some .rxResponseNotEnabled ∧
    refusalOf (exec .txOk State.reset) = some .txResponseNotEnabled ∧
    refusalOf (exec (.txErr 1) State.reset) = some .txResponseNotEnabled ∧
    refusalOf (exec (.rxOk (List.replicate 126 0)) { at_ 2 with rxArmed := true }) = some .frameTooLong ∧
    refusalOf (exec (.rspReserved 5) { at_ 2 with rxArmed := true }) = some .reservedResponse := by decide +kernel

/-- The events' header words (95_test_vectors.md 2.6; `ch_idx` 0 or 1 gives channel 11 or 12). -/
theorem test_events :
    (after (exec (.beaconObserved 11 0x1234 2 0x5678 true false) State.reset)).map (fun t => t.ev.map Evt.header) =
      some [0x00000000000056780000000612340058] ∧
    (after (exec (.decodeError 11 1 [0x41]) State.reset)).map (fun t => t.ev.map Evt.header) = some [0x0000101000000059] ∧
    (after (exec (.linkQualityFault 11 0xBEEF) State.reset)).map (fun t => t.ev.map Evt.header) = some [0xBEEF005A] ∧
    (after (exec (.receiveFault 11 5) State.reset)).map (fun t => t.ev.map Evt.header) = some [0x000000500000005B] ∧
    (after (exec (.requestSent 12 0) { State.reset with chIdx := 1 })).map (fun t => t.ev.map Evt.header) = some [0x64] ∧
    (after (exec (.transmitFault 12 0 1) { State.reset with chIdx := 1 })).map (fun t => t.ev.map Evt.header) =
      some [0x0000001000000065] ∧
    refusalOf (exec (.eventReserved 6) State.reset) = some .reservedEvent := by decide +kernel

/-- S_INIT, S_IDLE, S_QUIET and state code 7 (95_test_vectors.md 2.7). -/
theorem test_plain_states :
    (after (step State.reset)).map (fun t => (t.st, t.tuneCh, t.rc)) = some (1, 11, [.tune 11]) ∧
    (after (step (at_ 1))).map (fun t => (t.st, t.rxArmed, t.rc)) = some (2, true, [.rxStart]) ∧
    (after (step (at_ 6))).map (fun t => (t.st, t.rc)) = some (1, []) ∧
    faultOf (step (at_ 7)) = some .reservedState := by decide

/-- S_RACING with no latch holds, with one latch goes where it says (95_test_vectors.md 2.7). -/
theorem test_racing :
    after (step { at_ 2 with rxArmed := true }) = some { at_ 2 with rxArmed := true } ∧
    (after (step { at_ 2 with rxArmed := true, rxDonePending := true })).map (fun t => (t.st, t.rxArmed, t.rxDonePending)) =
      some (3, false, true) ∧
    (after (step { at_ 2 with rxArmed := true, tickPending := true })).map (fun t => (t.st, t.rxArmed, t.tickPending, t.rc)) =
      some (4, false, false, [.rxAbort]) := by decide

/-- S_RACING with both latches: the receive under RX_FIRST, the tick kept; the hop under HOP_FIRST, both latches 0
(95_test_vectors.md 2.7). -/
theorem test_racing_tie :
    let s := { at_ 2 with rxArmed := true, rxDonePending := true, tickPending := true }
    (Config.arbTie = .rxFirst ∧ (after (step s)).map (fun t => (t.st, t.tickPending, t.rxDonePending)) = some (3, true, true)) ∨
    (Config.arbTie = .hopFirst ∧ (after (step s)).map (fun t => (t.st, t.tickPending, t.rxDonePending)) = some (4, false, false)) := by
  cases h : Config.arbTie <;>
    simp [step, runNext, runItem, fsmMove, runWord, State.stateWord, at_, State.reset, stReserved, after, h, decode,
      Format.bytes, leNat, decodeState, Except.map, exec, execSRacing, raceWinner, State.rxWins, State.hopWins,
      State.setRxArmed, State.setRxDone, State.setTick, State.goto, State.radio, stRx, stHopPrep]

/-- S_RX reports V-B1, and says nothing of V-C1 (95_test_vectors.md 2.7). -/
theorem test_rx_frames :
    (after (step { holding vB1 with st := 3, rxDonePending := true })).map
      (fun t => (t.st, t.rxDonePending, t.ev.map Evt.header)) = some (6, false, [0x00000000000056780000000612340058]) ∧
    (after (step { holding vC1 with st := 3, rxDonePending := true })).map (fun t => (t.st, t.ev)) = some (6, []) := by
  decide +kernel

/-- S_RX reports V-E10 on channel 14 with its bytes, CRC 0xBEEF, fault 5 (95_test_vectors.md 2.7). -/
theorem test_rx_faults :
    (after (step { holding [0x04, 0x08] with st := 3, chIdx := 3, rxDonePending := true })).map (fun t => (t.st, t.ev)) =
      some (6, [{ code := .decodeError, chan := 14, k8 := 2, raw := [0x04, 0x08] }]) ∧
    (after (step { at_ 3 with rxKind := 1, rxCrc := 0xBEEF })).map (fun t => t.ev.map Evt.header) = some [0xBEEF005A] ∧
    (after (step { at_ 3 with rxKind := 2, rxErr := 5 })).map (fun t => t.ev.map Evt.header) = some [0x000000500000005B] := by
  decide +kernel

/-- S_HOP_PREP at index 0 and at index 15 (95_test_vectors.md 2.7). -/
theorem test_hop_prep :
    (after (step (at_ 4))).map (fun t => (t.st, t.chIdx, t.tuneCh, t.txInflight)) = some (5, 1, 12, true) ∧
    (after (step (at_ 4))).map (fun t => (t.txFrame, t.rc)) =
      some (some [0x03, 0x08, 0x00, 0xFF, 0xFF, 0xFF, 0xFF, 0x07], [.tune 12, .txStart 8]) ∧
    (after (step { at_ 4 with chIdx := 15, seq := 0xFF })).map (fun t => (t.chIdx, t.tuneCh, t.txFrame, t.rc)) =
      some (0, 11, some [0x03, 0x08, 0xFF, 0xFF, 0xFF, 0xFF, 0xFF, 0x07], [.tune 11, .txStart 8]) := by decide +kernel

/-- S_HOP_TXWAIT: waits, reports TX_OK, reports TX_ERR 9 at `seq` 0xFE (95_test_vectors.md 2.2, 2.7). -/
theorem test_hop_txwait :
    after (step { at_ 5 with txInflight := true }) = some { at_ 5 with txInflight := true } ∧
    (after (step { at_ 5 with chIdx := 1, txInflight := true, txDonePending := true, txKind := 3 })).map
      (fun t => (t.st, t.seq, t.txInflight, t.txDonePending, t.ev.map Evt.header)) = some (6, 1, false, false, [0x64]) ∧
    (after (step { at_ 5 with seq := 0xFE, txDonePending := true, txKind := 4, txErr := 9 })).map
      (fun t => (t.seq, t.ev)) = some (0xFF, [{ code := .transmitFault, chan := 11, seq := 0xFE, k8 := 9 }]) := by
  decide +kernel

/-- CURRENT and ADVANCE at 0, 7 and 15 (95_test_vectors.md 2.1). -/
theorem test_channel_sequencer :
    (after (exec .current { State.reset with chIdx := 7 })).map (fun t => t.dp.chan) = some 18 ∧
    (after (exec .advance { State.reset with chIdx := 7 })).map (fun t => t.chIdx) = some 8 ∧
    (after (exec .advance { State.reset with chIdx := 15 })).map (fun t => t.chIdx) = some 0 := by decide

/-- BUILD_REQUEST at `seq` 0x2A, then ENCODE (95_test_vectors.md L1.1). -/
theorem test_build_and_encode :
    (after (exec .buildRequest { State.reset with seq := 0x2A })).map (fun t => encodeFrame t.dp.frame) =
      some [0x03, 0x08, 0x2A, 0xFF, 0xFF, 0xFF, 0xFF, 0x07] ∧
    (after (exec .encode (withRecord beaconRecord))).map (fun t => (bufReadBytes t.txBuf 0 19, t.dp.len)) =
      some (some vB2, 19) ∧
    refusalOf (exec .encode (withRecord { ackRecord with sec := true })) = some .encodeIllFormed := by decide +kernel

/-- DECODE and CLASSIFY (95_test_vectors.md 2.4, 2.5: V-B2, V-E18, V-D1). -/
theorem test_decode_and_classify :
    (after (exec .decode (holding vB2))).map (fun t => (t.dp.frame, t.dp.derr)) = some (beaconRecord, none) ∧
    (after (exec .decode (holding [0x41, 0x80]))).map (fun t => t.dp.derr) = some (some .panidComp) ∧
    (after (exec .classify (withRecord beaconRecord))).map (fun t => t.dp.obs) =
      some (some { pan := 0xABCD, smode := 3, saddr := 0x0123456789ABCDEF, coord := false, join := true }) ∧
    (after (exec .classify (withRecord dataRecord))).map (fun t => t.dp.obs) = some none := by decide +kernel

/-- TICK, twice (95_test_vectors.md 2.8), and the unused operation codes (30_encoding.md R93). -/
theorem test_tick_and_unused_codes :
    (after (exec .tick State.reset)).map (fun t => t.tickPending) = some true ∧
    (after (exec .tick { State.reset with tickPending := true })).map (fun t => t.tickPending) = some true ∧
    refusalOf (exec .iopReserved7 State.reset) = some .reservedOperation ∧
    refusalOf (exec (.iopReserved8F 15) State.reset) = some .reservedOperation := by decide

/-- A script's `run` from reset boots: S_INIT, then the rest of the `run` (30_encoding.md R99); a `step` with no enabled
step is an error. -/
theorem test_script_items :
    (after (step { State.reset with agenda := [.run] })).map (fun t => (t.st, t.agenda)) = some (1, [.run]) ∧
    (after (step { at_ 2 with rxArmed := true, agenda := [.run] })).map (fun t => (t.st, t.agenda)) = some (2, []) ∧
    refusalOf (step { at_ 2 with agenda := [.step] }) = some .stepNotEnabled ∧
    (after (step { at_ 7 with seq := 9, agenda := [.reset] })).map (fun t => (t.st, t.seq)) = some (0, 0) := by decide

/-- A placed word runs in the next step: S_IDLE by its state, TUNE 12 by the agenda. -/
theorem test_placed_words :
    (after (step (State.reset.withFetchWord 8 1))).map (fun t => (t.st, t.rc)) = some (2, [.rxStart]) ∧
    (after (step (State.reset.withFetchWord 32 0x0C00))).map (fun t => (t.st, t.rc)) = some (0, [.tune 12]) := by
  decide +kernel

/-! ## Witnesses: states and operands that meet the statements' hypotheses -/

/-- The invariants of a step boundary, as a test that can be run. -/
def invHolds (s : State) : Bool :=
  s.st != 7 && (s.rxArmed == (s.st == 2)) && (s.txInflight == (s.st == 5))
    && (!s.rxDonePending || s.st == 2 || s.st == 3) && (s.st != 3 || s.rxDonePending)
    && (!s.txDonePending || s.st == 5)
    && (s.st == 0 || (s.tuneCh == s.chan && radioChannel s.rc == some s.tuneCh))
    && (!s.rxDonePending || s.rxKind == 0 || s.rxKind == 1 || s.rxKind == 2)
    && (!s.rxDonePending || s.rxKind != 0 || s.rxFrame.toOption.isSome)
    && (!s.txDonePending || s.txKind == 3 || s.txKind == 4)
    && (!s.txInflight || s.txFrame == some (encodeFrame (buildRequest s.seq Config.reqFrameVersion)))
    && Memory.wf s.txBuf && Memory.wf s.rxBuf && s.agenda.all Item.isAgent

theorem scanInv_of_invHolds {s : State} (h : invHolds s = true) : ScanInv s := by
  simp only [invHolds, Bool.and_eq_true] at h
  obtain ⟨⟨⟨⟨⟨⟨⟨⟨⟨⟨⟨⟨⟨h1, h2⟩, h3⟩, h4⟩, h5⟩, h6⟩, h7⟩, h8⟩, h9⟩, h10⟩, h11⟩, h12⟩, h13⟩, h14⟩ := h
  refine ⟨?_, ?_, ?_, ?_, ?_, ?_, ?_, ?_, ?_, ?_, ?_, h12, h13, h14⟩
  · simpa [stReserved] using h1
  · simp only [beq_iff_eq] at h2; rw [h2]; simp [stRacing]
  · simp only [beq_iff_eq] at h3; rw [h3]; simp [stHopTxwait]
  · intro hr; simpa [hr, stRacing, stRx] using h4
  · intro hs; simpa [hs, stRx] using h5
  · intro ht; simpa [ht, stHopTxwait] using h6
  · intro hs; have h0 : s.st ≠ 0#3 := hs; simpa [h0] using h7
  · intro hr; simpa [hr, kindRxOk, kindRxCrc, kindRxErr, or_assoc] using h8
  · intro hr hk
    have h : s.rxFrame.toOption.isSome = true := by simpa [hr, show s.rxKind = 0 from hk] using h9
    cases hf : s.rxFrame with
    | ok b => exact ⟨b, rfl⟩
    | error e => simp [hf, Except.toOption] at h
  · intro ht; simpa [ht, kindTxOk, kindTxErr] using h10
  · intro ht; simpa [ht] using h11

/-- A tuned state. -/
def tuned (s : State) (st : BitVec 3) : State := { s with st := st, tuneCh := 11, rc := [.tune 11] }

/-- S_RACING with a completed receive. -/
def racingRx : State := { tuned (holding vB1) 2 with rxArmed := true, rxDonePending := true }

/-- S_RACING with a tick. -/
def racingTick : State := { tuned State.reset 2 with rxArmed := true, tickPending := true }

/-- S_RX with these received bytes. -/
def reporting (b : List Byte) : State := { tuned (holding b) 3 with rxDonePending := true }

/-- S_HOP_TXWAIT with an answer of this kind. -/
def answered (kind : BitVec 3) : State :=
  { (tuned State.reset 5).putTxFrame (encodeFrame (buildRequest 0 0)) with
    txLen := 8, txInflight := true, txDonePending := true, txKind := kind }

/-- A 125-byte data record, the longest. -/
def longestRecord : Frame := { dataRecord with pl := List.replicate 116 0 }

/-- `DecodeOfEncodeIsTheInstruction`: well-formed operations, at the ends of their operands' ranges. -/
theorem witness_wellformed :
    (Instr.tune 11).WellFormed = true ∧ (Instr.tune 26).WellFormed = true ∧ (Instr.txStart 125).WellFormed = true ∧
    (Instr.rxOk (List.replicate 125 0)).WellFormed = true ∧ (Instr.frameTypeReserved (fcf 7 3 3 true)).WellFormed = true ∧
    (Instr.beaconObserved 26 0xFFFF 2 0xFFFF true true).WellFormed = true ∧
    (Instr.decodeError 11 6 (List.replicate 125 0)).WellFormed = true ∧ (Instr.cmdOther 6).WellFormed = true := by
  decide +kernel

/-- `DecodeSelectsFirstMatchingRow`: a word that decodes. -/
theorem witness_decodes :
    decode .radioRsp [4, 0, 1, 0, 0, 0] = .ok (.txErr 1, []) ∧ decode .radioRsp [5, 0, 0, 0, 0, 0] = .ok (.rspReserved 5, []) :=
  ⟨rfl, rfl⟩

/-- `EventHeaderLayout`: no raw bytes, and 125; the vector V-E10's header has DECODE_ERROR's code 1. -/
theorem witness_event_header :
    (evtDecodeError 11 1 []).raw.length ≤ Config.maxFrameLen ∧
    (evtDecodeError 26 6 (List.replicate 125 0)).raw.length = Config.maxFrameLen ∧
    (evtDecodeError 14 2 [0x04, 0x08]).header.extractLsb' 0 3 = 1 := by decide +kernel

/-- `BufferPrimitivesAreLittleEndian`: the widest access, the bytes on both sides of it, and a field that ends the array. -/
theorem witness_buffer_primitives :
    bufRead (memWrite [] 10 8 0x0807060504030201) 17 = some 8 ∧ bufRead (memWrite [] 10 8 0x0807060504030201) 9 = none ∧
    bufRead (memWrite [] 10 8 0x0807060504030201) 18 = none ∧ memRead [9, 1, 2, 3, 4, 5, 6, 7, 8] 1 8 = 0x0807060504030201 ∧
    memRead [1, 2] 0 2 = 0x0201 ∧ memRead [1] 0 1 = 1 := by decide +kernel

/-- `StepKeepsBuffersCanonical`, `TracesOnlyGrow`, `CountersFollowTheTraces`, `NoAgentReadsTheDatapath`: the first step
from reset. -/
theorem witness_first_step :
    ∃ t, step State.reset = .next t ∧ Memory.wf State.reset.txBuf = true ∧ Memory.wf State.reset.rxBuf = true ∧
      State.reset.nextIsNoReset = true ∧ State.reset.nextIsAgent = true ∧
      State.reset.seq.toNat = txReports State.reset.ev % 256 ∧ State.reset.chIdx.toNat = txStarts State.reset.rc % 16 :=
  ⟨_, rfl, rfl, rfl, rfl, rfl, rfl, rfl⟩

/-- `StepKeepsBuffersCanonical`: buffers that list bytes, and an operation driven by itself. -/
theorem witness_canonical_buffers :
    Memory.wf (answered 3).txBuf = true ∧ Memory.wf (holding vB3).rxBuf = true ∧
    (after (step { withRecord beaconRecord with agenda := [.op .internalOp [3]] })).isSome = true := by decide +kernel

/-- `SixteenAdvancesCloseTheRound`: the ends of the channel range. -/
theorem witness_channels :
    (11 ≤ (11 : BitVec 5).toNat ∧ (11 : BitVec 5).toNat ≤ 26) ∧ 11 ≤ (26 : BitVec 5).toNat ∧ (26 : BitVec 5).toNat ≤ 26 := by
  decide

/-- `RequestEncodesToEightBytes`, `EncodedFramesDecodeBack`: a request of each version. -/
theorem witness_requests :
    (withRecord (buildRequest 0xFF 0)).dp.frame = buildRequest 0xFF 0 ∧ (0 : BitVec 2).toNat ≤ 1 ∧
    (withRecord (buildRequest 0 1)).dp.frame = buildRequest 0 1 ∧ (1 : BitVec 2).toNat ≤ 1 := by decide

/-- `EncodeWritesTheRecordAndNothingElse`, `EncodedFramesDecodeBack`: the shortest and the longest well-formed record; the
bytes written out of the layouts are the vectors' (95_test_vectors.md 2.3). -/
theorem witness_wellformed_records :
    Frame.wf ackRecord = true ∧ frameBytes ackRecord = [0x02, 0x00, 0x05] ∧ Frame.wf longestRecord = true ∧
    (frameBytes longestRecord).length = 125 ∧ Frame.wf beaconRecord = true ∧ frameBytes beaconRecord = vB2 ∧
    frameBytes dataRecord = vD1 ∧ Frame.wf (buildRequest 7 1) = true := by decide +kernel

/-- `EncodeRefusesIllFormedRecords`: a record that fails each part of each condition. -/
theorem witness_illformed_records :
    Frame.IllFormed { beaconRecord with ftype := 1 } ∧ Frame.IllFormed { dataRecord with ftype := 2 } ∧
    Frame.IllFormed { ackRecord with ftype := 3 } ∧ Frame.IllFormed { buildRequest 0 0 with ftype := 7 } ∧
    Frame.IllFormed { dataRecord with sec := true } ∧ Frame.IllFormed { dataRecord with fver := 2 } ∧
    Frame.IllFormed { dataRecord with dst := { Addr.none with mode := 1 } } ∧
    Frame.IllFormed { ackRecord with dst := { Addr.none with pan := 1 } } ∧
    Frame.IllFormed { ackRecord with src := { Addr.none with addr := 1 } } ∧
    Frame.IllFormed { dataRecord with src := { dataRecord.src with addr := 65536 } } ∧
    Frame.IllFormed { dataRecord with dst := Addr.none } ∧
    Frame.IllFormed { dataRecord with src := Addr.short 0x4321 2 } ∧
    Frame.IllFormed { beaconRecord with content := .beacon 0 0 0 7 } ∧
    Frame.IllFormed { dataRecord with pl := List.replicate 117 0 } := by
  simp [Frame.IllFormed, Addr.IllFormed, dataRecord, beaconRecord, ackRecord, buildRequest, Addr.none, Addr.short, Addr.ext,
    frameBytes, slotBytes, fieldBytes]

/-- `EncodeRefusesIllFormedRecords`: records that fail no condition, one of the longest length, one with a short address of
65535. -/
theorem witness_no_condition_fails :
    ¬ Frame.IllFormed longestRecord ∧ ¬ Frame.IllFormed beaconRecord ∧
    ¬ Frame.IllFormed { ackRecord with dst := Addr.short 0xFFFF 0xFFFF } := by
  simp [Frame.IllFormed, Addr.IllFormed, longestRecord, dataRecord, beaconRecord, ackRecord, Addr.none, Addr.short, Addr.ext,
    frameBytes, slotBytes, fieldBytes]

/-- `DecodeDeliversRecordOrError`: a frame and no frame. -/
theorem witness_received :
    (holding vB1).rxFrame = .ok vB1 ∧ (decodeFrame vB1).toOption.isSome = true ∧ (holding [0x41]).rxFrame = .ok [0x41] ∧
    errorOf [0x41] = some .truncated := ⟨rfl, by decide +kernel, rfl, by decide⟩

/-- `DecodeChecksTheFcfInOrder`: a word of each clause, where the checks meet: one that would fail every later check too
fails the first; a word that passes them, cut short and whole (V-A1). -/
theorem witness_checks :
    (0x644C : BitVec 16) = (0x64 : Byte) ++ (0x4C : Byte) ∧ errorOf [0x4C, 0x64] = some .frameType ∧
    errorOf [0x4B, 0x64] = some .security ∧ errorOf [0x43, 0x64] = some .addrMode ∧ errorOf [0x43, 0xA0] = some .version ∧
    errorOf [0x43, 0x80] = some .panidComp ∧ errorOf [0x02, 0x00] = some .truncated ∧
    (decodeFrame [0x02, 0x00, 0x05]).toOption = some ackRecord := by decide +kernel

/-- `HeaderLengthIsToldByTheFcf`: a frame decoded up to its source. -/
theorem witness_header_length :
    (decodeSrc vC2 (fcf 3 2 3 true)).toOption.map (fun a => a.2.2.2) = some 15 ∧
    (fcfCheck (fcf 3 3 3 false)).toOption = some () ∧ hdrLen (fcf 3 3 3 false) = 23 := by decide +kernel

/-- `TrailingBytesArePayload`, `CutFramesAreTruncated`: a frame with payload, with bytes after it, cut before its payload
and one byte earlier. -/
theorem witness_payload :
    (decodeFrame vB2).toOption = some beaconRecord ∧ vB2.length - beaconRecord.pl.length = 17 ∧
    (decodeFrame (vB2.take 17)).toOption = some { beaconRecord with pl := [] } ∧
    errorOf (vB2.take 16) = some .truncated ∧ errorOf (vB2.take 0) = some .truncated ∧
    (decodeFrame (vB2 ++ [1])).toOption = some { beaconRecord with pl := [0xDE, 0xAD, 1] } := by decide +kernel

/-- `ClassifyExtractsBeaconFields`: a beacon with a source, one without, a record that is no beacon. -/
theorem witness_classify :
    (withRecord beaconRecord).dp.frame.content = .beacon 0x8000 0 0 0 ∧ (withRecord beaconRecord).dp.frame.src.mode ≠ 0 ∧
    (withRecord { beaconRecord with src := Addr.none }).dp.frame.src.mode = 0 ∧
    (∀ sf g p e, (withRecord dataRecord).dp.frame.content ≠ .beacon sf g p e) := by
  refine ⟨rfl, by decide, rfl, ?_⟩
  intro sf g p e h
  cases h

/-- `FailedFcfChecksAreAnswered`: a received frame and an FCF for each clause. -/
theorem witness_failed_checks :
    (holding [0x01, 0x04]).rxFrame = .ok [0x01, 0x04] ∧ fcfCheck (fcf 4 0 0 false) = .error .frameType ∧
    4 ≤ (fcf 4 0 0 false).ftype.toNat ∧ ((fcf 3 1 0 false).ftype.toNat < 4 ∧ (fcf 3 1 0 false).sec = false) ∧
    (fcf 3 1 0 false).dstMode = 1 ∧ (fcf 3 0 1 false).srcMode = 1 ∧
    2 ≤ (Fcf.fver { fcf 3 0 0 false with fver := 2 }).toNat ∧ Instr.srcExt (fcf 4 0 0 false) ∈ fcfRows (fcf 4 0 0 false) :=
  ⟨rfl, rfl, by decide, by decide, rfl, rfl, by decide, by decide⟩

/-- `SupportedVersionsAreAccepted`, `VersionsZeroAndOneDecodeAlike`: an FCF of each version. -/
theorem witness_versions :
    (holding vC1).rxFrame = .ok vC1 ∧ fcfCheck (fcf 3 2 0 false) = .ok () ∧ (fcf 3 2 0 false).fver = 0 ∧
    fcfCheck { fcf 3 2 0 false with fver := 1 } = .ok () := ⟨rfl, rfl, rfl, rfl⟩

/-- `DestinationRowsReadTheAddress`: each row, on a frame that just holds its fields and on one a byte shorter. -/
theorem witness_destination_rows :
    (fcfCheck (fcf 2 0 0 false) = .ok () ∧ srcOffset (fcf 2 0 0 false) = 3) ∧
    (fcfCheck (fcf 3 2 0 false) = .ok () ∧ srcOffset (fcf 3 2 0 false) = 7) ∧
    (fcfCheck (fcf 1 3 0 false) = .ok () ∧ srcOffset (fcf 1 3 0 false) = 13) ∧
    (holding (List.replicate 13 0)).rxFrame = .ok (List.replicate 13 0) ∧
    (holding (List.replicate 2 0)).rxFrame = .ok (List.replicate 2 0) :=
  ⟨⟨rfl, rfl⟩, ⟨rfl, rfl⟩, ⟨rfl, rfl⟩, rfl, rfl⟩

/-- `SourceRowsReadTheAddress`: each row, compressed and not, the frame as long as its header and a byte shorter. -/
theorem witness_source_rows :
    (fcfCheck (fcf 3 2 0 false) = .ok () ∧ hdrLen (fcf 3 2 0 false) = 7) ∧
    (fcfCheck (fcf 0 0 2 false) = .ok () ∧ hdrLen (fcf 0 0 2 false) = 7) ∧
    (fcfCheck (fcf 3 2 3 true) = .ok () ∧ hdrLen (fcf 3 2 3 true) = 15) ∧
    (holding (vC2.take 15)).rxFrame = .ok (vC2.take 15) ∧ (holding (vC2.take 14)).rxFrame = .ok (vC2.take 14) ∧
    (vC2.take 14).length < 15 :=
  ⟨⟨rfl, rfl⟩, ⟨rfl, rfl⟩, ⟨rfl, rfl⟩, rfl, rfl, by decide⟩

/-- `DataAckAndCommandRowsReadTheirContent`: a data, an acknowledgment and a command frame, each just long enough, and the
command a byte shorter. -/
theorem witness_content_rows :
    ((holding (vD1.take 9)).rxFrame = .ok (vD1.take 9) ∧ hdrLen (fcf 1 2 2 true) = (vD1.take 9).length) ∧
    ((holding [2, 0, 5]).rxFrame = .ok [2, 0, 5] ∧ hdrLen (fcf 2 0 0 false) = 3) ∧
    ((holding vC2).rxFrame = .ok vC2 ∧ hdrLen (fcf 3 2 3 true) + 1 = vC2.length ∧ vC2.getD 15 0 = 4) ∧
    (holding (vC2.take 15)).rxFrame = .ok (vC2.take 15) := ⟨⟨rfl, rfl⟩, ⟨rfl, rfl⟩, ⟨rfl, rfl, rfl⟩, rfl⟩

/-- `BeaconRowReadsItsContent`: a beacon with empty lists, one with a descriptor and two pending addresses, and the latter
a byte shorter. -/
theorem witness_beacon_row :
    (holding vB1).rxFrame = .ok vB1 ∧ hdrLen (fcf 0 0 2 false) = 7 ∧ leAt vB1 9 1 % 8 = 0 ∧ leAt vB1 10 1 % 8 = 0 ∧
    vB1.length = 11 ∧
    (holding vB3).rxFrame = .ok vB3 ∧ leAt vB3 9 1 % 8 = 1 ∧ leAt vB3 14 1 % 8 = 1 ∧ leAt vB3 14 1 / 16 % 8 = 1 ∧
    14 + 1 + 2 + 8 = vB3.length ∧ (holding (vB3.take 24)).rxFrame = .ok (vB3.take 24) :=
  ⟨rfl, rfl, by decide, by decide, rfl, rfl, by decide, by decide, by decide, rfl, rfl⟩

/-- `DecodeClassesAgreeWithDecode`: a received frame of each type with its own FCF. -/
theorem witness_classes_agree :
    (readFcf vB1).toOption = some (fcf 0 0 2 false) ∧ (readFcf vD1).toOption = some (fcf 1 2 2 true) ∧
    (readFcf [2, 0, 5]).toOption = some (fcf 2 0 0 false) ∧ (readFcf vC2).toOption = some (fcf 3 2 3 true) ∧
    (decodeFrame vC2).toOption.isSome = true := by decide +kernel

/-- `UnreadableBytesStopTheDecoder`: a length past the buffer, and a byte nothing wrote. -/
theorem witness_unreadable :
    State.rxFrame { State.reset with rxLen := 126 } = .error .offsetPastBuffer ∧
    State.rxFrame { State.reset with rxLen := 1 } = .error .unspecifiedByte ∧
    State.rxFrame { State.reset with rxLen := 125 } = .error .unspecifiedByte := ⟨rfl, rfl, rfl⟩

/-- `ReceivedFrameIsHandedOver`, `FaultAndTransmitResponsesAreLatched`, `DisabledResponsesAreRefused`: an armed receive, an
outstanding transmit, the shortest and the longest frame, and one over it. -/
theorem witness_responses :
    (State.rxArmed { at_ 2 with rxArmed := true } = true ∧ (at_ 2).rxDonePending = false) ∧
    ([] : List Byte).length ≤ 125 ∧ (List.replicate 125 (0 : Byte)).length = 125 ∧
    125 < (List.replicate 126 (0 : Byte)).length ∧
    (State.txInflight { at_ 5 with txInflight := true } = true ∧ (at_ 5).txDonePending = false) ∧
    (at_ 1).rxArmed = false ∧ racingRx.rxDonePending = true ∧ (at_ 1).txInflight = false ∧ (answered 3).txDonePending = true := by
  decide +kernel

/-- `WaitingStatesHold`, `RaceHasExactlyOneWinner`: each pair of latches, and a tie for each value of ARB_TIE. -/
theorem witness_race :
    ((at_ 2).rxDonePending = false ∧ (at_ 2).tickPending = false) ∧
    (racingRx.rxDonePending = true ∧ racingRx.tickPending = false) ∧
    (racingTick.tickPending = true ∧ racingTick.rxDonePending = false) ∧
    (Config.arbTie = .rxFirst ∨ Config.arbTie = .hopFirst) :=
  ⟨⟨rfl, rfl⟩, ⟨rfl, rfl⟩, ⟨rfl, rfl⟩, by cases Config.arbTie <;> simp⟩

/-- `ReceiveIsReportedByKind`: a beacon, a command, no frame, a CRC failure, a fault. -/
theorem witness_reports :
    ((reporting vB1).rxKind = 0 ∧ (reporting vB1).rxFrame = .ok vB1 ∧
      (decodeFrame vB1).toOption.bind classifyFrame =
        some { pan := 0x1234, smode := 2, saddr := 0x5678, coord := true, join := false }) ∧
    ((reporting vC1).rxFrame = .ok vC1 ∧ (decodeFrame vC1).toOption.map classifyFrame = some none) ∧
    ((reporting [0x41]).rxFrame = .ok [0x41] ∧ errorOf [0x41] = some .truncated ∧ (.truncated, 1) ∈ decodeErrorCodes) ∧
    State.rxKind { at_ 3 with rxKind := 1 } = 1 ∧ State.rxKind { at_ 3 with rxKind := 2 } = 2 :=
  ⟨⟨rfl, rfl, by decide +kernel⟩, ⟨rfl, by decide +kernel⟩, ⟨rfl, by decide, by decide⟩, rfl, rfl⟩

/-- `HopPreparesTheRequest`, `OneHopIsOneReport`: the index in the middle and at its end. -/
theorem witness_hop :
    (1 : BitVec 4) = BitVec.ofNat 4 (((at_ 4).chIdx.toNat + 1) % 16) ∧ (12 : BitVec 5) = BitVec.ofNat 5 (11 + (1 : BitVec 4).toNat) ∧
    (0 : BitVec 4) = BitVec.ofNat 4 ((State.chIdx { at_ 4 with chIdx := 15 }).toNat + 1) ∧
    (11 : BitVec 5) = BitVec.ofNat 5 (11 + (0 : BitVec 4).toNat) ∧
    (at_ 2).rxDonePending = false ∧ (at_ 2).txDonePending = false := by decide

/-- `WaitingStatesHold`, `TransmitResultIsReportedAndSeqAdvances`: no answer, a success, a failure. -/
theorem witness_transmit_results :
    (at_ 5).txDonePending = false ∧ ((answered 3).txDonePending = true ∧ (answered 3).txKind = 3) ∧
    (answered 4).txDonePending = true ∧ (answered 4).txKind ≠ 3 := by decide +kernel

/-- `StepRunsTheDecodedOperation`: the state's own word, the FSM's turn, a word on the agenda, state code 7. -/
theorem witness_step :
    (State.reset.agenda = [] ∧ decode .fsmState State.reset.stateWord = .ok (.sInit, []) ∧ Instr.sInit ≠ .stReserved) ∧
    decode .fsmState (State.stateWord { at_ 6 with agenda := [.fsm] }) = .ok (.sQuiet, []) ∧
    (decode .internalOp [6] = .ok (.tick, []) ∧ State.st { at_ 0 with agenda := [.op .internalOp [6]] } ≠ 7) ∧
    (at_ 7).st = 7 ∧ (at_ 7).nextIsNoReset = true :=
  ⟨⟨rfl, rfl, by decide⟩, rfl, ⟨rfl, by decide⟩, rfl, rfl⟩

/-- `ResetSetsTheSpecifiedValues`: reset applied to a machine in the middle of its work. -/
theorem witness_reset : State.agenda { answered 3 with agenda := [.reset, .fsm] } = [.reset, .fsm] := rfl

/-- The statements under `ScanInv`: a state with the invariants for every state code and every way out of it. -/
theorem witness_invariants :
    ScanInv State.reset ∧ ScanInv (tuned State.reset 1) ∧ ScanInv racingRx ∧ ScanInv racingTick ∧ ScanInv (reporting vB1) ∧
    ScanInv (reporting vC1) ∧ ScanInv (reporting [0x41]) ∧ ScanInv { reporting [] with rxKind := 1, rxBuf := [] } ∧
    ScanInv { reporting [] with rxKind := 2, rxBuf := [] } ∧ ScanInv (tuned State.reset 4) ∧ ScanInv (answered 3) ∧
    ScanInv (answered 4) ∧ ScanInv (tuned State.reset 6) := by
  refine ⟨?_, ?_, ?_, ?_, ?_, ?_, ?_, ?_, ?_, ?_, ?_, ?_, ?_⟩ <;> exact scanInv_of_invHolds (by decide +kernel)

/-- `StepKeepsTheScanInvariants`, `FsmTransitionsAreTheTable`: those states' steps are enabled and go on. -/
theorem witness_moves :
    ([State.reset, tuned State.reset 1, racingRx, racingTick, reporting vB1, reporting vC1, reporting [0x41],
      { reporting [] with rxKind := 1, rxBuf := [] }, { reporting [] with rxKind := 2, rxBuf := [] },
      tuned State.reset 4, answered 3, answered 4, tuned State.reset 6].all fun s =>
        s.fsmEnabled && (after (fsmMove s)).isSome && (after (step s)).isSome) = true := by decide +kernel

/-- `CollaboratorsWriteOnlyTheLatches`: a tick and a received frame happen. -/
theorem witness_collaborators :
    (Item.op .internalOp [6]).isAgent = true ∧ (after (runWord .internalOp [6] (at_ 2))).isSome = true ∧
    (Item.op .radioRsp (encode (.rxOk vB1))).isAgent = true ∧
    (after (runWord .radioRsp (encode (.rxOk vB1)) { at_ 2 with rxArmed := true })).isSome = true := by decide +kernel

/-- `CountersAndTickChangeOnlyWhereTheRulesSay`: steps in which `seq`, the channel index and the tick latch change. -/
theorem witness_counters :
    ((answered 3).nextIsAgent = true ∧ (answered 3).nextIsNoReset = true ∧
      (after (step (answered 3))).map (fun t => t.seq) = some 1) ∧
    (after (step (tuned State.reset 4))).map (fun t => t.chIdx) = some 1 ∧
    (racingTick.tickPending = true ∧ (after (step racingTick)).map (fun t => t.tickPending) = some false) ∧
    ((at_ 2).tickPending = false ∧ (State.nextIsAgent { at_ 2 with agenda := [.op .internalOp [6]] }) = true ∧
      (after (step { at_ 2 with agenda := [.op .internalOp [6]] })).map (fun t => t.tickPending) = some true) := by
  decide +kernel

/-- `TimedTicksBoundTheHops`: boot, the first tick when it is due, and the hop it wins. -/
theorem witness_timed :
    ((timedRun { now := 0, t0 := 0, ticks := 0, quietAt := 0 } State.reset
      [(0, .fsm), (0, .fsm), (2000000, .op .internalOp [6]), (2000000, .fsm)]).map fun x => (x.1.ticks, x.2.st)) =
        some (1, 4) ∧
    Item.isAgent (.op .internalOp [6]) = true ∧ Item.isAgent .fsm = true := by decide +kernel

/-! ## A fair run: one hop after the other, for ever -/

/-- What decides the next step: the state code and the latches `rx_done`, `tick`, `tx_inflight`, `tx_done`. -/
def latches (s : State) : BitVec 3 × Bool × Bool × Bool × Bool :=
  (s.st, s.rxDonePending, s.tickPending, s.txInflight, s.txDonePending)

/-- The seven phases of a hop (44_scan_loop.md R203). -/
def phase : Nat → BitVec 3 × Bool × Bool × Bool × Bool
  | 0 => (1, false, false, false, false)
  | 1 => (2, false, false, false, false)
  | 2 => (2, false, true, false, false)
  | 3 => (4, false, false, false, false)
  | 4 => (5, false, false, true, false)
  | 5 => (5, false, false, true, true)
  | _ => (6, false, false, false, false)

/-- Who moves in each phase: the tick ends the race, TX_OK the transmit, the FSM takes the others. -/
def mover : Nat → Item
  | 1 => .op .internalOp [6]
  | 4 => .op .radioRsp [3, 0, 0, 0, 0, 0]
  | _ => .fsm

theorem phase_step {s : State} {k : Nat} (hk : k < 7) (h : latches s = phase k) :
    ∃ t, runNext (mover k) s = .next t ∧ latches t = phase ((k + 1) % 7) := by
  obtain ⟨h1, h2, h3, h4, h5⟩ : s.st = (phase k).1 ∧ s.rxDonePending = (phase k).2.1 ∧ s.tickPending = (phase k).2.2.1 ∧
      s.txInflight = (phase k).2.2.2.1 ∧ s.txDonePending = (phase k).2.2.2.2 := by
    rw [← h]; exact ⟨rfl, rfl, rfl, rfl, rfl⟩
  have hf : s.st ≠ 7 → runNext .fsm s = fsmMove s := fun h => by
    simp only [runNext, runItem, stReserved, h, false_and, if_false]
  have hm := fsmMove_cases s
  simp only [stInit, stIdle, stRacing, stRx, stHopPrep, stHopTxwait, stQuiet, stReserved] at hm
  rcases (by omega : k = 0 ∨ k = 1 ∨ k = 2 ∨ k = 3 ∨ k = 4 ∨ k = 5 ∨ k = 6) with
    rfl | rfl | rfl | rfl | rfl | rfl | rfl <;>
  simp only [phase] at h1 h2 h3 h4 h5 <;> simp [h1] at hm hf <;> simp only [mover, hf, hm]
  · exact ⟨_, rfl, by simp [latches, phase, stRacing, h2, h3, h4, h5]⟩
  · refine ⟨s.setTick true, ?_, by simp [latches, phase, h1, h2, h4, h5]⟩
    simp [runNext, runItem, h1, stReserved, runWord, decode, Format.bytes, leNat, decodeIop, Except.map, exec, execTick]
  · exact ⟨s.hopWins, by simp [execSRacing, raceWinner, h2, h3],
      by simp [latches, phase, State.hopWins, stHopPrep, h4, h5]⟩
  · have hw : (buildRequest s.seq Config.reqFrameVersion).wf = true := by
      generalize s.seq = q
      revert q
      decide +kernel
    simp only [execSHopPrep, hw, if_true]
    exact ⟨_, rfl, by simp [latches, phase, stHopTxwait, h2, h3, h5]⟩
  · refine ⟨(s.setTxKind kindTxOk).setTxDone true, ?_, by simp [latches, phase, h1, h2, h3, h4]⟩
    simp [runNext, runItem, h1, stReserved, runWord, decode, Format.bytes, leNat, decodeRrsp, exec, execTxOk,
      State.txResponseEnabled, h4, h5]
  · simp only [execSHopTxwait, h5, if_true]
    exact ⟨_, rfl, by simp [latches, phase, stQuiet, h2, h3]⟩
  · exact ⟨_, rfl, by simp [latches, phase, stIdle, h2, h3, h4, h5]⟩

/-- Who moves at each point of the run. -/
def fairItem (n : Nat) : Item := mover (n % 7)

/-- The states of the run, from the top of the loop. -/
def fairState (s : State) : Nat → State
  | 0 => s
  | n + 1 => (after (runNext (fairItem n) (fairState s n))).getD State.reset

/-- The run goes on for ever, phase after phase. -/
theorem fairState_phase {s : State} (h : latches s = phase 0) (n : Nat) : latches (fairState s n) = phase (n % 7) := by
  induction n with
  | zero => exact h
  | succ n ih =>
    obtain ⟨t, ht, hp⟩ := phase_step (Nat.mod_lt n (by decide)) ih
    rw [show (n + 1) % 7 = (n % 7 + 1) % 7 by omega, ← hp]
    simp [fairState, fairItem, ht, after]

theorem fairState_steps {s : State} (h : latches s = phase 0) (n : Nat) :
    runNext (fairItem n) (fairState s n) = .next (fairState s (n + 1)) := by
  obtain ⟨t, ht, -⟩ := phase_step (Nat.mod_lt n (by decide)) (fairState_phase h n)
  simp only [fairState, fairItem, ht, after, Option.getD_some]

/-- `FairRunsComeBackToIdle`, `OnlyReceivesUnderRxFirstHoldUpHops`: a fair run, in which a hop follows a hop for ever. -/
theorem witness_fair_run : FairRun (fairState (tuned State.reset 1)) fairItem where
  start := scanInv_of_invHolds (by decide +kernel)
  agent n := by
    have : n % 7 < 7 := Nat.mod_lt n (by decide)
    unfold fairItem
    interval_cases n % 7 <;> decide
  steps n := fairState_steps rfl n
  ticks n := ⟨7 * n + 1, by omega, by simp [fairItem, Nat.add_mod, mover, Item.isTick]⟩
  answers n _ := ⟨7 * n + 5, by omega, by
    have := fairState_phase (s := tuned State.reset 1) rfl (7 * n + 5)
    rw [show (7 * n + 5) % 7 = 5 by omega] at this
    exact congrArg (fun x => x.2.2.2.2) this⟩
  moves n _ := ⟨7 * n, by omega, by simp [fairItem, mover, Item.movesFsm]⟩

end Sys2Proof.Tests
end

section
/-! SUPPORT. How a step selects the operation it runs, one rule per function of the dispatch, and the statement about
the step made of them. -/

namespace Sys2Proof.Machine

/-! ## The word -/

/-- A word that decodes runs its operation. -/
theorem runWord_of_decode {fmt : Format} {bytes r : List Byte} {i : Instr} (s : State)
    (h : decode fmt bytes = .ok (i, r)) : runWord fmt bytes s = exec i s := by
  simp only [runWord, h]

/-- The FSM's word is the state register's alone: the agenda has no part in it. -/
@[simp] theorem State.stateWord_setAgenda (s : State) (a : List Item) : (s.setAgenda a).stateWord = s.stateWord := rfl

/-- State code 7 decodes to ST_RESERVED (10_state.md R22). -/
theorem decode_stateWord_of_st_reserved {s : State} (h : s.st = stReserved) :
    decode .fsmState s.stateWord = .ok (.stReserved, []) := by
  rw [State.stateWord, h]
  rfl

/-- A state register that decodes to another operation does not hold state code 7. -/
theorem st_ne_reserved_of_decode {s : State} {i : Instr} {r : List Byte}
    (h : decode .fsmState s.stateWord = .ok (i, r)) (hi : i ≠ .stReserved) : s.st ≠ stReserved := by
  intro hst
  rw [decode_stateWord_of_st_reserved hst] at h
  cases h
  exact hi rfl

/-! ## The item -/

/-- Outside state code 7 an item simply runs. -/
theorem runNext_of_st_ne_reserved {s : State} (it : Item) (h : s.st ≠ stReserved) : runNext it s = runItem it s :=
  if_neg fun hr => h hr.1

/-- In state code 7 every item but reset is the model fault (10_state.md R22). -/
theorem runNext_of_st_reserved {it : Item} {s : State} (h : s.st = stReserved) (hit : it ≠ .reset) :
    runNext it s = .fault .reservedState :=
  if_pos ⟨h, hit⟩

/-- The FSM's turn runs the operation the state register decodes to. -/
theorem runNext_fsm_of_decode {s : State} {i : Instr} {r : List Byte}
    (h : decode .fsmState s.stateWord = .ok (i, r)) (hi : i ≠ .stReserved) : runNext .fsm s = exec i s :=
  (runNext_of_st_ne_reserved .fsm (st_ne_reserved_of_decode h hi)).trans (runWord_of_decode s h)

/-- A word's turn runs the operation the word decodes to. -/
theorem runNext_op_of_decode {s : State} {i : Instr} {fmt : Format} {bytes r : List Byte} (hst : s.st ≠ stReserved)
    (h : decode fmt bytes = .ok (i, r)) : runNext (.op fmt bytes) s = exec i s :=
  (runNext_of_st_ne_reserved (.op fmt bytes) hst).trans (runWord_of_decode s h)

/-! ## The agenda -/

/-- With nothing on the agenda it is the FSM's turn. -/
theorem step_of_agenda_nil {s : State} (h : s.agenda = []) : step s = runNext .fsm s := by
  simp only [step, h]

/-- The agenda's head takes its turn, at the state that holds what comes after it. -/
theorem step_of_agenda_cons {s : State} {it : Item} {rest : List Item} (h : s.agenda = it :: rest) :
    step s = runNext it (s.setAgenda rest) := by
  simp only [step, h]

/-- An agenda whose head is no reset does not begin with one. -/
theorem head_ne_reset_of_nextIsNoReset {s : State} {it : Item} {rest : List Item} (h : s.agenda = it :: rest)
    (hn : s.nextIsNoReset = true) : it ≠ .reset := by
  rintro rfl
  simp [State.nextIsNoReset, h] at hn

/-- In state code 7 every step but a reset is the model fault, whatever the agenda holds. -/
theorem step_of_st_reserved {s : State} (h : s.st = stReserved) (hn : s.nextIsNoReset = true) :
    step s = .fault .reservedState := by
  obtain ⟨-, hs⟩ | ⟨it, rest, ha, hs⟩ := step_cases s
  · rw [hs]
    exact runNext_of_st_reserved h (by simp)
  · rw [hs]
    exact runNext_of_st_reserved h (head_ne_reset_of_nextIsNoReset ha hn)

/-- Settles O46: the agenda's rule, then the item's, for each of the four cases; the FSM's word is read at `s` and run
at the state with the agenda moved on, which holds the same word. -/
theorem stepRunsTheDecodedOperation : Obligations.StepRunsTheDecodedOperation := by
  refine ⟨?emptyAgenda, ?fsmTurn, ?wordTurn, ?reservedCode⟩
  case emptyAgenda =>
    intro s i r ha hd hi
    rw [step_of_agenda_nil ha, runNext_fsm_of_decode hd hi]
  case fsmTurn =>
    intro s i r rest ha hd hi
    have hd' : decode .fsmState (s.setAgenda rest).stateWord = .ok (i, r) := by
      rwa [State.stateWord_setAgenda]
    rw [step_of_agenda_cons ha, runNext_fsm_of_decode hd' hi]
  case wordTurn =>
    intro s i fmt bytes r rest ha hst hd
    have hst' : (s.setAgenda rest).st ≠ stReserved := hst
    rw [step_of_agenda_cons ha, runNext_op_of_decode hst' hd]
  case reservedCode =>
    intro s hst hn
    exact step_of_st_reserved hst hn

end Sys2Proof.Machine
end

section
/-! SUPPORT. What a step can do, said once: the FSM's moves by the state they leave, the collaborators' steps by what
enables them, and the four ways a step answers a next state. -/

namespace Sys2Proof.Machine

/-! ## The hop's preparation -/

/-- The bytes of the request of the current `seq` (41_request_builder.md R151). -/
def State.request (s : State) : List Byte := encodeFrame (buildRequest s.seq Config.reqFrameVersion)

/-- The request is eight bytes long, whatever `seq` is. -/
theorem State.length_request (s : State) : s.request.length = 8 := rfl

/-- What S_HOP_PREP leaves (44_scan_loop.md R193). -/
def State.hopPrepared (s : State) : State :=
  (((((((s.setChIdx (nextIndex s.chIdx)).putTxFrame s.request).setTxLen (BitVec.ofNat 7 s.request.length)).setTuneCh
    (currentChannel (nextIndex s.chIdx))).radio (.tune (currentChannel (nextIndex s.chIdx)))).radio
    (.txStart (BitVec.ofNat 7 s.request.length))).setTxInflight true).goto stHopTxwait

@[simp] theorem State.hopPrepared_rc (s : State) : s.hopPrepared.rc =
    s.rc ++ [.tune (currentChannel (nextIndex s.chIdx)), .txStart (BitVec.ofNat 7 s.request.length)] := by
  simp [State.hopPrepared]

/-- The request is a record ENCODE writes, so S_HOP_PREP is never refused (40_frame_codec.md R119). -/
theorem wf_buildRequest (q : BitVec 8) : (buildRequest q Config.reqFrameVersion).wf = true := by
  have hlen : (encodeFrame (buildRequest q Config.reqFrameVersion)).length = 8 := rfl
  simp only [Frame.wf, hlen]
  rfl

theorem execSHopPrep_eq (s : State) : execSHopPrep s = .next s.hopPrepared := by
  simp only [execSHopPrep, wf_buildRequest, if_true]
  rfl

/-! ## The transmit's answer -/

theorem execSHopTxwait_of_answered {s : State} (h : s.txDonePending = true) : execSHopTxwait s =
    .next (((((s.emit s.txReport).setSeq (s.seq + 1)).setTxInflight false).setTxDone false).goto stQuiet) :=
  if_pos h

theorem execSHopTxwait_of_unanswered {s : State} (h : s.txDonePending = false) : execSHopTxwait s = .next s :=
  if_neg (Bool.eq_false_iff.1 h)

/-! ## The FSM's moves -/

/-- The FSM's moves, by the state they leave and what is latched there (44_scan_loop.md R180 to R197). -/
inductive FsmStep (s : State) : State → Prop where
  | boot (hst : s.st = stInit) : FsmStep s (((s.setTuneCh s.chan).radio (.tune s.chan)).goto stIdle)
  | arm (hst : s.st = stIdle) : FsmStep s (((s.radio .rxStart).setRxArmed true).goto stRacing)
  | raceWaits (hst : s.st = stRacing) : FsmStep s s
  | rxWins (hst : s.st = stRacing) (hrx : s.rxDonePending = true) : FsmStep s s.rxWins
  | hopWins (hst : s.st = stRacing) (htick : s.tickPending = true) : FsmStep s s.hopWins
  | reportRx (hst : s.st = stRx) (e : Option Evt) (he : s.rxReport = .ok e) :
      FsmStep s (((s.emitOpt e).setRxDone false).goto stQuiet)
  | hop (hst : s.st = stHopPrep) : FsmStep s s.hopPrepared
  | txWaits (hst : s.st = stHopTxwait) : FsmStep s s
  | reportTx (hst : s.st = stHopTxwait) (htx : s.txDonePending = true) :
      FsmStep s (((((s.emit s.txReport).setSeq (s.seq + 1)).setTxInflight false).setTxDone false).goto stQuiet)
  | rest (hst : s.st = stQuiet) : FsmStep s (s.goto stIdle)

/-- Where the FSM's move answers a next state, it is one of these. -/
theorem fsmMove_next {s t : State} (h : fsmMove s = .next t) : FsmStep s t := by
  rcases fsmMove_cases s with ⟨hst, he⟩ | ⟨hst, he⟩ | ⟨hst, he⟩ | ⟨hst, he⟩ | ⟨hst, he⟩ | ⟨hst, he⟩ | ⟨hst, he⟩ |
    ⟨hst, he⟩ <;> rw [he] at h
  · cases h
    exact .boot hst
  · cases h
    exact .arm hst
  · rcases execSRacing_next h with ⟨-, -, rfl⟩ | ⟨hrx, -, rfl⟩ | ⟨htick, -, rfl⟩
    · exact .raceWaits hst
    · exact .rxWins hst hrx
    · exact .hopWins hst htick
  · obtain ⟨e, hrep, rfl⟩ := execSRx_next h
    exact .reportRx hst e hrep
  · rw [execSHopPrep_eq] at h
    cases h
    exact .hop hst
  · rcases execSHopTxwait_next h with ⟨htx, rfl⟩ | ⟨-, rfl⟩
    · exact .reportTx hst htx
    · exact .txWaits hst
  · cases h
    exact .rest hst
  · cases h

/-! ## The collaborators' steps -/

/-- The steps of the radio and of the hop timer, with what enables them (45_interfaces.md R215 to R221); the last one's
word is TICK. -/
inductive CollaboratorStep (it : Item) (s : State) : State → Prop where
  | rxOk (b : List Byte) (harmed : s.rxArmed = true) (hb : b.length ≤ Config.maxFrameLen) :
      CollaboratorStep it s (((s.putRxFrame b).setRxKind kindRxOk).setRxDone true)
  | rxCrc (crc : BitVec 16) (harmed : s.rxArmed = true) :
      CollaboratorStep it s { (s.dropRxFrame.setRxKind kindRxCrc).setRxDone true with rxCrc := crc }
  | rxErr (err : BitVec 8) (harmed : s.rxArmed = true) :
      CollaboratorStep it s { (s.dropRxFrame.setRxKind kindRxErr).setRxDone true with rxErr := err }
  | txOk (hinflight : s.txInflight = true) : CollaboratorStep it s ((s.setTxKind kindTxOk).setTxDone true)
  | txErr (err : BitVec 8) (hinflight : s.txInflight = true) :
      CollaboratorStep it s { (s.setTxKind kindTxErr).setTxDone true with txErr := err }
  | tick (bs : List Byte) (hit : it = .op .internalOp (6 :: bs)) : CollaboratorStep it s (s.setTick true)

/-- An agent's word of the operation format begins with TICK's code. -/
theorem bytes_of_internalOp_isAgent {bytes : List Byte} (ha : (Item.op .internalOp bytes).isAgent = true) :
    ∃ bs, bytes = 6 :: bs := by
  cases bytes with
  | nil => simp [Item.isAgent, Item.isTick] at ha
  | cons b bs => exact ⟨bs, by simpa [Item.isAgent, Item.isTick] using ha⟩

/-- Where an agent's word answers a next state, it is one of these. -/
theorem runWord_isAgent_next {s t : State} {fmt : Format} {bytes : List Byte}
    (ha : (Item.op fmt bytes).isAgent = true) (hw : runWord fmt bytes s = .next t) :
    CollaboratorStep (.op fmt bytes) s t := by
  rcases runWord_agent_next ha hw with ⟨b, he⟩ | ⟨c, he⟩ | ⟨k, he⟩ | he | ⟨k, he⟩ | ⟨rfl, rfl⟩
  · obtain ⟨harmed, -, hb, rfl⟩ := execRxOk_next he
    exact .rxOk b harmed hb
  · obtain ⟨harmed, -, rfl⟩ := execRxCrc_next he
    exact .rxCrc c harmed
  · obtain ⟨harmed, -, rfl⟩ := execRxErr_next he
    exact .rxErr k harmed
  · obtain ⟨hinflight, -, rfl⟩ := execTxOk_next he
    exact .txOk hinflight
  · obtain ⟨hinflight, -, rfl⟩ := execTxErr_next he
    exact .txErr k hinflight
  · obtain ⟨bs, rfl⟩ := bytes_of_internalOp_isAgent ha
    exact .tick bs rfl

/-! ## The step -/

/-- The FSM's turn is its move. -/
theorem fsmMove_of_runNext_fsm {s t : State} (h : runNext .fsm s = .next t) : fsmMove s = .next t := by
  unfold runNext at h
  split at h
  · cases h
  · exact h

/-- What a step can do, where it answers a next state: a reset, the FSM's move, a wait, or a word. What stays on the
agenda is a tail of it: all of it while a script's `run` goes on. -/
theorem step_next {s t : State} (h : step s = .next t) :
    (∃ rest, s.agenda = .reset :: rest ∧ t = State.reset.setAgenda rest) ∨
    (∃ a, a <:+ s.agenda ∧ fsmMove (s.setAgenda a) = .next t) ∨
    (∃ a, a <:+ s.agenda ∧ t = s.setAgenda a) ∨
    ∃ fmt bytes rest, s.agenda = .op fmt bytes :: rest ∧ runWord fmt bytes (s.setAgenda rest) = .next t := by
  obtain ⟨ha, hs⟩ | ⟨it, rest, ha, hs⟩ := step_cases s <;> rw [hs] at h
  · exact .inr (.inl ⟨s.agenda, List.suffix_rfl, fsmMove_of_runNext_fsm h⟩)
  · have htail : rest <:+ s.agenda := ha ▸ List.suffix_cons it rest
    obtain ⟨rfl, rfl⟩ | ⟨-, ⟨-, hm⟩ | ⟨-, -, hm⟩ | ⟨rfl, -, hm⟩ | ⟨-, -, rfl⟩ | ⟨fmt, bytes, rfl, hw⟩⟩ := runNext_next h
    · exact .inl ⟨rest, ha, rfl⟩
    · exact .inr (.inl ⟨rest, htail, hm⟩)
    · exact .inr (.inl ⟨rest, htail, hm⟩)
    · exact .inr (.inl ⟨.run :: rest, ha ▸ List.suffix_rfl, hm⟩)
    · exact .inr (.inr (.inl ⟨rest, htail, rfl⟩))
    · exact .inr (.inr (.inr ⟨fmt, bytes, rest, ha, hw⟩))

end Sys2Proof.Machine
end

section
/-! SUPPORT. The invariants of a step boundary: they hold at reset, and every agent's step keeps them. -/

namespace Sys2Proof.Machine

/-! ## The radio's channel -/

/-- After a TUNE the radio is on its channel. -/
@[simp] theorem radioChannel_append_tune (cs : List Rcmd) (c : BitVec 5) :
    radioChannel (cs ++ [.tune c]) = some c := by
  induction cs with
  | nil => rfl
  | cons d cs ih => cases d <;> simp [radioChannel, ih]

/-- A command that is no TUNE leaves the radio's channel. -/
theorem radioChannel_append_of_ne_tune (cs : List Rcmd) {c : Rcmd} (hc : ∀ ch, c ≠ .tune ch) :
    radioChannel (cs ++ [c]) = radioChannel cs := by
  induction cs with
  | nil => cases c with
    | tune ch => exact absurd rfl (hc ch)
    | _ => rfl
  | cons d cs ih => cases d <;> simp [radioChannel, ih]

/-! ## The received frame -/

/-- A length inside the buffer whose bytes all have a value is a frame that can be read. -/
theorem rxFrame_of_read {s : State} {b : List Byte} (hlen : s.rxLen.toNat ≤ Config.maxFrameLen)
    (hread : bufReadBytes s.rxBuf 0 s.rxLen.toNat = some b) : s.rxFrame = .ok b := by
  simp [State.rxFrame, hread, Nat.not_lt.2 hlen]

/-! ## The latches where nothing is outstanding -/

/-- The states in which the radio has nothing to answer. -/
def AtRest (x : BitVec 3) : Prop := x = stInit ∨ x = stIdle ∨ x = stHopPrep ∨ x = stQuiet

/-- They are the states that are not waiting for the radio or holding a result of it, and not the reserved one. -/
theorem atRest_iff {x : BitVec 3} :
    AtRest x ↔ x ≠ stRacing ∧ x ≠ stRx ∧ x ≠ stHopTxwait ∧ x ≠ stReserved := by
  unfold AtRest
  revert x
  decide

/-- The four latches of the radio's port are clear. -/
structure LatchesClear (s : State) : Prop where
  rxArmed : s.rxArmed = false
  rxDone : s.rxDonePending = false
  txInflight : s.txInflight = false
  txDone : s.txDonePending = false

variable {s : State}

namespace ScanInv

theorem rxArmed_eq_false (h : ScanInv s) (hst : s.st ≠ stRacing) : s.rxArmed = false :=
  Bool.eq_false_iff.2 fun ha => hst (h.armed.1 ha)

theorem txInflight_eq_false (h : ScanInv s) (hst : s.st ≠ stHopTxwait) : s.txInflight = false :=
  Bool.eq_false_iff.2 fun ha => hst (h.inflight.1 ha)

theorem txDone_eq_false (h : ScanInv s) (hst : s.st ≠ stHopTxwait) : s.txDonePending = false :=
  Bool.eq_false_iff.2 fun ha => hst (h.txDone ha)

theorem latchesClear (h : ScanInv s) (hr : AtRest s.st) : LatchesClear s := by
  obtain ⟨hracing, hrx, htx, -⟩ := atRest_iff.1 hr
  have hdone : s.rxDonePending = false := Bool.eq_false_iff.2 fun ha => (h.rxDone ha).elim hracing hrx
  exact ⟨h.rxArmed_eq_false hracing, hdone, h.txInflight_eq_false htx, h.txDone_eq_false htx⟩

/-- With nothing outstanding, only the channel, the buffers and the agenda are left to check. -/
theorem of_latchesClear (hr : AtRest s.st) (hc : LatchesClear s)
    (tuned : s.st ≠ stInit → s.tuneCh = s.chan ∧ radioChannel s.rc = some s.tuneCh)
    (txWf : Memory.wf s.txBuf = true) (rxWf : Memory.wf s.rxBuf = true) (agents : s.agenda.all Item.isAgent = true) :
    ScanInv s := by
  obtain ⟨hracing, hrx, htx, hreserved⟩ := atRest_iff.1 hr
  obtain ⟨harmed, hrxDone, hinflight, htxDone⟩ := hc
  exact
    { legal := hreserved
      armed := by simp [harmed, hracing]
      inflight := by simp [hinflight, htx]
      rxDone := by simp [hrxDone]
      rxHeld := fun hst => absurd hst hrx
      txDone := by simp [htxDone]
      tuned := tuned
      rxKinds := by simp [hrxDone]
      rxHeldFrame := by simp [hrxDone]
      txKinds := by simp [htxDone]
      txHeldFrame := by simp [hinflight]
      txWf := txWf
      rxWf := rxWf
      agents := agents }

end ScanInv

/-- Settles O48: at reset nothing is outstanding, the buffers and the agenda are empty, and S_INIT has not tuned yet. -/
theorem scanInvariantsHoldAtReset : Obligations.ScanInvariantsHoldAtReset :=
  .of_latchesClear (.inl rfl) ⟨rfl, rfl, rfl, rfl⟩ (fun hst => absurd rfl hst) wf_nil wf_nil rfl

namespace ScanInv

/-- Nothing of the invariants but the agents speaks of the agenda. -/
theorem setAgenda (h : ScanInv s) {a : List Item} (ha : a.all Item.isAgent = true) : ScanInv (s.setAgenda a) :=
  { h with agents := ha }

/-! ## Each of the FSM's moves keeps them -/

theorem boot (h : ScanInv s) (hst : s.st = stInit) :
    ScanInv (((s.setTuneCh s.chan).radio (.tune s.chan)).goto stIdle) := by
  obtain ⟨harmed, hrxDone, hinflight, htxDone⟩ := h.latchesClear (.inl hst)
  exact .of_latchesClear (.inr (.inl rfl)) ⟨harmed, hrxDone, hinflight, htxDone⟩
    (fun _ => ⟨rfl, radioChannel_append_tune _ _⟩) h.txWf h.rxWf h.agents

theorem arm (h : ScanInv s) (hst : s.st = stIdle) :
    ScanInv (((s.radio .rxStart).setRxArmed true).goto stRacing) := by
  obtain ⟨-, hrxDone, hinflight, htxDone⟩ := h.latchesClear (.inr (.inl hst))
  obtain ⟨htune, hchan⟩ := h.tuned (by rw [hst]; decide)
  exact
    { h with
      legal := by simp [stRacing, stReserved]
      armed := iff_of_true rfl rfl
      inflight := by simp [hinflight, stRacing, stHopTxwait]
      rxDone := fun _ => .inl rfl
      rxHeld := by simp [stRacing, stRx]
      txDone := by simp [htxDone]
      tuned := fun _ => ⟨htune, (radioChannel_append_of_ne_tune _ (by simp)).trans hchan⟩ }

theorem rxWins (h : ScanInv s) (hst : s.st = stRacing) (hrx : s.rxDonePending = true) : ScanInv s.rxWins := by
  have htx : s.st ≠ stHopTxwait := by rw [hst]; decide
  exact
    { h with
      legal := by simp [State.rxWins, stRx, stReserved]
      armed := by simp [State.rxWins, stRx, stRacing]
      inflight := by simp [State.rxWins, h.txInflight_eq_false htx, stRx, stHopTxwait]
      rxDone := fun _ => .inr rfl
      rxHeld := fun _ => hrx
      txDone := by simp [State.rxWins, h.txDone_eq_false htx]
      tuned := fun _ => h.tuned (by rw [hst]; decide) }

theorem hopWins (h : ScanInv s) (hst : s.st = stRacing) : ScanInv s.hopWins := by
  have htx : s.st ≠ stHopTxwait := by rw [hst]; decide
  obtain ⟨htune, hchan⟩ := h.tuned (by rw [hst]; decide)
  exact .of_latchesClear (.inr (.inr (.inl rfl))) ⟨rfl, rfl, h.txInflight_eq_false htx, h.txDone_eq_false htx⟩
    (fun _ => ⟨htune, (radioChannel_append_of_ne_tune _ (by simp)).trans hchan⟩) h.txWf h.rxWf h.agents

theorem reportRx (h : ScanInv s) (hst : s.st = stRx) (e : Option Evt) :
    ScanInv (((s.emitOpt e).setRxDone false).goto stQuiet) := by
  have hracing : s.st ≠ stRacing := by rw [hst]; decide
  have htx : s.st ≠ stHopTxwait := by rw [hst]; decide
  exact .of_latchesClear (.inr (.inr (.inr rfl)))
    ⟨h.rxArmed_eq_false hracing, rfl, h.txInflight_eq_false htx, h.txDone_eq_false htx⟩
    (fun _ => h.tuned (by rw [hst]; decide)) h.txWf h.rxWf h.agents

/-- The radio is handed the request that was built (20_memory.md R61). -/
theorem hop (h : ScanInv s) (hst : s.st = stHopPrep) : ScanInv s.hopPrepared := by
  obtain ⟨harmed, hrxDone, -, htxDone⟩ := h.latchesClear (.inr (.inr (.inl hst)))
  have hfits : 0 + s.request.length ≤ Config.maxFrameLen := by
    rw [s.length_request]
    decide
  exact
    { h with
      legal := by simp [State.hopPrepared, stHopTxwait, stReserved]
      armed := by simp [State.hopPrepared, harmed, stHopTxwait, stRacing]
      inflight := iff_of_true rfl rfl
      rxDone := by simp [State.hopPrepared, hrxDone]
      rxHeld := by simp [State.hopPrepared, stHopTxwait, stRx]
      txDone := fun _ => rfl
      tuned := fun _ =>
        ⟨rfl, (radioChannel_append_of_ne_tune _ (by simp)).trans (radioChannel_append_tune _ _)⟩
      rxKinds := by simp [State.hopPrepared, hrxDone]
      rxHeldFrame := by simp [State.hopPrepared, hrxDone]
      txKinds := by simp [State.hopPrepared, htxDone]
      txHeldFrame := fun _ => bufReadBytes_bufWriteBytes s.request s.txBuf 0
      txWf := wf_bufWriteBytes s.request h.txWf hfits }

theorem reportTx (h : ScanInv s) (hst : s.st = stHopTxwait) (e : Evt) (q : BitVec 8) :
    ScanInv (((((s.emit e).setSeq q).setTxInflight false).setTxDone false).goto stQuiet) := by
  have hracing : s.st ≠ stRacing := by rw [hst]; decide
  have hrx : s.st ≠ stRx := by rw [hst]; decide
  have hrxDone : s.rxDonePending = false := Bool.eq_false_iff.2 fun ha => (h.rxDone ha).elim hracing hrx
  exact .of_latchesClear (.inr (.inr (.inr rfl))) ⟨h.rxArmed_eq_false hracing, hrxDone, rfl, rfl⟩
    (fun _ => h.tuned (by rw [hst]; decide)) h.txWf h.rxWf h.agents

theorem rest (h : ScanInv s) (hst : s.st = stQuiet) : ScanInv (s.goto stIdle) := by
  obtain ⟨harmed, hrxDone, hinflight, htxDone⟩ := h.latchesClear (.inr (.inr (.inr hst)))
  exact .of_latchesClear (.inr (.inl rfl)) ⟨harmed, hrxDone, hinflight, htxDone⟩
    (fun _ => h.tuned (by rw [hst]; decide)) h.txWf h.rxWf h.agents

theorem fsmStep {t : State} (h : ScanInv s) (hm : FsmStep s t) : ScanInv t := by
  cases hm with
  | boot hst => exact h.boot hst
  | arm hst => exact h.arm hst
  | raceWaits _ => exact h
  | rxWins hst hrx => exact h.rxWins hst hrx
  | hopWins hst _ => exact h.hopWins hst
  | reportRx hst e _ => exact h.reportRx hst e
  | hop hst => exact h.hop hst
  | txWaits _ => exact h
  | reportTx hst _ => exact h.reportTx hst _ _
  | rest hst => exact h.rest hst

/-! ## Each of the collaborators' steps keeps them -/

/-- A received frame comes to an armed receiver and is there to be read (20_memory.md R62 (1)). -/
theorem rxOk (h : ScanInv s) (harmed : s.rxArmed = true) {b : List Byte} (hb : b.length ≤ Config.maxFrameLen) :
    ScanInv (((s.putRxFrame b).setRxKind kindRxOk).setRxDone true) := by
  have hlen : (BitVec.ofNat 7 b.length).toNat = b.length := by
    simp only [Config.maxFrameLen] at hb
    simp only [BitVec.toNat_ofNat]
    omega
  have hread : bufReadBytes (bufWriteBytes [] 0 b) 0 (BitVec.ofNat 7 b.length).toNat = some b := by
    rw [hlen]
    exact bufReadBytes_bufWriteBytes b [] 0
  have hframe : (((s.putRxFrame b).setRxKind kindRxOk).setRxDone true).rxFrame = .ok b :=
    rxFrame_of_read (hlen.trans_le hb) hread
  exact
    { h with
      rxDone := fun _ => .inl (h.armed.1 harmed)
      rxHeld := fun _ => rfl
      rxKinds := fun _ => .inl rfl
      rxHeldFrame := fun _ _ => ⟨b, hframe⟩
      rxWf := wf_bufWriteBytes b wf_nil (by omega) }

/-- A receive that failed leaves no frame to read. -/
theorem rxFault (h : ScanInv s) (harmed : s.rxArmed = true) {k : BitVec 3} (hk : k = kindRxCrc ∨ k = kindRxErr)
    (crc : BitVec 16) (err : BitVec 8) :
    ScanInv { (s.dropRxFrame.setRxKind k).setRxDone true with rxCrc := crc, rxErr := err } :=
  { h with
    rxDone := fun _ => .inl (h.armed.1 harmed)
    rxHeld := fun _ => rfl
    rxKinds := fun _ => .inr hk
    rxHeldFrame := by
      rcases hk with rfl | rfl <;> simp [kindRxOk, kindRxCrc, kindRxErr]
    rxWf := wf_nil }

/-- A transmit is answered only where one is outstanding. -/
theorem txResponse (h : ScanInv s) (hinflight : s.txInflight = true) {k : BitVec 3}
    (hk : k = kindTxOk ∨ k = kindTxErr) (err : BitVec 8) :
    ScanInv { (s.setTxKind k).setTxDone true with txErr := err } :=
  { h with
    txDone := fun _ => h.inflight.1 hinflight
    txKinds := fun _ => hk }

theorem setTick (h : ScanInv s) (b : Bool) : ScanInv (s.setTick b) := { h with }

theorem collaboratorStep {t : State} {it : Item} (h : ScanInv s) (hc : CollaboratorStep it s t) : ScanInv t := by
  cases hc with
  | rxOk b harmed hb => exact h.rxOk harmed hb
  | rxCrc crc harmed => exact h.rxFault harmed (.inl rfl) crc s.rxErr
  | rxErr err harmed => exact h.rxFault harmed (.inr rfl) s.rxCrc err
  | txOk hinflight => exact h.txResponse hinflight (.inl rfl) s.txErr
  | txErr err hinflight => exact h.txResponse hinflight (.inr rfl) err
  | tick _ _ => exact h.setTick true

/-- What stays on an agenda of agents is one. -/
theorem agents_of_suffix (h : ScanInv s) {a : List Item} (ha : a <:+ s.agenda) : a.all Item.isAgent = true :=
  List.all_eq_true.2 fun it hit => List.all_eq_true.1 h.agents it (ha.subset hit)

end ScanInv

/-- Settles O49: the invariants without the agenda's clause do not see the agenda, so each of the step's four ways is a
reset, a move of the FSM, a wait, or a collaborator's word from a state with the invariants. -/
theorem stepKeepsTheScanInvariants : Obligations.StepKeepsTheScanInvariants := by
  intro s t h hs
  obtain ⟨rest, ha, rfl⟩ | ⟨a, ha, hm⟩ | ⟨a, ha, rfl⟩ | ⟨fmt, bytes, rest, ha, hw⟩ := step_next hs
  · exact ScanInv.setAgenda scanInvariantsHoldAtReset (h.agents_of_suffix (ha ▸ List.suffix_cons _ rest))
  · exact (h.setAgenda (h.agents_of_suffix ha)).fsmStep (fsmMove_next hm)
  · exact h.setAgenda (h.agents_of_suffix ha)
  · have hword : (Item.op fmt bytes).isAgent = true :=
      List.all_eq_true.1 h.agents _ (ha ▸ List.mem_cons_self)
    exact (h.setAgenda (h.agents_of_suffix (ha ▸ List.suffix_cons _ rest))).collaboratorStep
      (runWord_isAgent_next hword hw)

end Sys2Proof.Machine
end

section
/-! SUPPORT. What the steps leave unchanged: the traces, the state the collaborators do not own, the counters, and the
datapath, which no agent reads. -/

namespace Sys2Proof.Machine

/-! ## The channel of a report -/

theorem txReport_chan (s : State) : s.txReport.chan = s.chan := by
  unfold State.txReport
  split <;> rfl

theorem frameReport_chan {c : BitVec 5} {b : List Byte} {e : Evt} (h : frameReport c b = some e) : e.chan = c := by
  unfold frameReport at h
  split at h
  · obtain ⟨o, -, rfl⟩ := Option.map_eq_some_iff.1 h
    rfl
  · cases h
    rfl

/-- Whatever S_RX reports, it reports on `CURRENT()` (44_scan_loop.md R201). -/
theorem rxReport_chan {s : State} {e : Evt} (h : s.rxReport = .ok (some e)) : e.chan = s.chan := by
  unfold State.rxReport at h
  split at h
  · split at h
    · cases h
    · exact frameReport_chan (Except.ok.inj h)
  · split at h
    · cases h
      rfl
    · split at h
      · cases h
        rfl
      · cases h

/-! ## The traces -/

/-- The command trace goes on by at most two commands, the event trace by at most one record, on `CURRENT()`. -/
structure TracesExtend (s t : State) : Prop where
  rc : ∃ cs, t.rc = s.rc ++ cs ∧ cs.length ≤ 2
  ev : ∃ es, t.ev = s.ev ++ es ∧ es.length ≤ 1 ∧ ∀ e ∈ es, e.chan = s.chan

namespace TracesExtend

variable {s t : State}

theorem of_eq (hrc : t.rc = s.rc) (hev : t.ev = s.ev) : TracesExtend s t :=
  ⟨⟨[], by simp [hrc]⟩, ⟨[], by simp [hev]⟩⟩

theorem of_commands (cs : List Rcmd) (hlen : cs.length ≤ 2) (hrc : t.rc = s.rc ++ cs) (hev : t.ev = s.ev) :
    TracesExtend s t :=
  ⟨⟨cs, hrc, hlen⟩, ⟨[], by simp [hev]⟩⟩

theorem of_record (e : Option Evt) (hchan : ∀ x, e = some x → x.chan = s.chan) (hrc : t.rc = s.rc)
    (hev : t.ev = s.ev ++ e.toList) : TracesExtend s t :=
  ⟨⟨[], by simp [hrc]⟩, ⟨e.toList, hev, by cases e <;> simp, by simpa using hchan⟩⟩

/-- One command, and nothing else of the traces. -/
theorem of_command (c : Rcmd) (hrc : t.rc = s.rc ++ [c]) (hev : t.ev = s.ev) : TracesExtend s t :=
  of_commands [c] (by simp) hrc hev

/-- One record on `CURRENT()`, and nothing else of the traces. -/
theorem of_emit (e : Evt) (hchan : e.chan = s.chan) : TracesExtend s (s.emit e) :=
  of_record (some e) (fun _ hx => Option.some.inj hx ▸ hchan) rfl rfl

/-- S_RACING aborts the receive or leaves the traces alone. -/
theorem of_execSRacing (h : execSRacing s = .next t) : TracesExtend s t := by
  obtain ⟨-, -, rfl⟩ | ⟨-, -, rfl⟩ | ⟨-, -, rfl⟩ := execSRacing_next h
  · exact of_eq rfl rfl
  · exact of_eq rfl rfl
  · exact of_command .rxAbort rfl rfl

theorem of_execSRx (h : execSRx s = .next t) : TracesExtend s t := by
  obtain ⟨e, he, rfl⟩ := execSRx_next h
  exact of_record e (fun x hx => rxReport_chan (hx ▸ he)) rfl rfl

theorem of_execSHopPrep (h : execSHopPrep s = .next t) : TracesExtend s t := by
  rw [execSHopPrep_eq] at h
  cases h
  exact of_commands _ (by simp) s.hopPrepared_rc rfl

theorem of_execSHopTxwait (h : execSHopTxwait s = .next t) : TracesExtend s t := by
  obtain ⟨-, rfl⟩ | ⟨-, rfl⟩ := execSHopTxwait_next h
  · exact of_record (some s.txReport) (fun _ hx => Option.some.inj hx ▸ txReport_chan s) rfl rfl
  · exact of_eq rfl rfl

theorem of_execEncode (h : execEncode s = .next t) : TracesExtend s t := by
  unfold execEncode at h
  split at h
  · cases h
    exact of_eq rfl rfl
  · cases h

theorem of_execDecode (h : execDecode s = .next t) : TracesExtend s t := by
  unfold execDecode at h
  split at h
  · cases h
  · cases h
    exact of_eq rfl rfl

/-- Every operation of the table. -/
theorem of_exec {i : Instr} (h : exec i s = .next t) : TracesExtend s t := by
  cases i with
  | frameBeacon f | frameData f | frameAck f | frameCommand f | frameTypeReserved f
  | dstNone f | dstModeReserved f | dstShort f | dstExt f
  | srcNone f | srcModeReserved f | srcShort f | srcExt f
  | version2003 f | version2006 f | versionReserved f =>
    obtain ⟨d, rfl⟩ := runStage_next h
    exact of_eq rfl rfl
  | cmdBeaconRequest | cmdOther _ | current | advance | buildRequest | classify | tick | sQuiet =>
    cases h
    exact of_eq rfl rfl
  | tune _ | rxStart | rxAbort | txStart _ | sInit | sIdle =>
    cases h
    exact of_command _ rfl rfl
  | rxOk _ =>
    obtain ⟨-, -, -, rfl⟩ := execRxOk_next h
    exact of_eq rfl rfl
  | rxCrc _ =>
    obtain ⟨-, -, rfl⟩ := execRxCrc_next h
    exact of_eq rfl rfl
  | rxErr _ =>
    obtain ⟨-, -, rfl⟩ := execRxErr_next h
    exact of_eq rfl rfl
  | txOk =>
    obtain ⟨-, -, rfl⟩ := execTxOk_next h
    exact of_eq rfl rfl
  | txErr _ =>
    obtain ⟨-, -, rfl⟩ := execTxErr_next h
    exact of_eq rfl rfl
  | beaconObserved _ _ _ _ _ _ | decodeError _ _ _ | linkQualityFault _ _ | receiveFault _ _ | requestSent _ _
  | transmitFault _ _ _ =>
    cases h
    exact of_emit _ rfl
  | sRacing => exact of_execSRacing h
  | sRx => exact of_execSRx h
  | sHopPrep => exact of_execSHopPrep h
  | sHopTxwait => exact of_execSHopTxwait h
  | encode => exact of_execEncode h
  | decode => exact of_execDecode h
  | rspReserved _ | eventReserved _ | stReserved | iopReserved7 | iopReserved8F _ => cases h

theorem of_runWord {fmt : Format} {bytes : List Byte} (h : runWord fmt bytes s = .next t) : TracesExtend s t := by
  obtain ⟨i, rest, -, he⟩ := runWord_next h
  exact of_exec he

/-- The traces and `CURRENT()` do not depend on the agenda. -/
theorem of_setAgenda {a : List Item} (h : TracesExtend (s.setAgenda a) t) : TracesExtend s t := ⟨h.rc, h.ev⟩

end TracesExtend

/-- Settles O53: what is not a reset is a wait or runs an operation of the table, the FSM's move too, and each of those
only appends. -/
theorem tracesOnlyGrow : Obligations.TracesOnlyGrow := by
  intro s t hn hs
  have hext : TracesExtend s t := by
    obtain ⟨rest, ha, -⟩ | ⟨a, -, hm⟩ | ⟨a, -, rfl⟩ | ⟨fmt, bytes, rest, -, hw⟩ := step_next hs
    · exact absurd rfl (head_ne_reset_of_nextIsNoReset ha hn)
    · exact (TracesExtend.of_runWord hm).of_setAgenda
    · exact .of_eq rfl rfl
    · exact (TracesExtend.of_runWord hw).of_setAgenda
  exact ⟨hext.rc, hext.ev⟩

/-! ## The collaborators -/

theorem CollaboratorStep.sameButLatches {it : Item} {s t : State} (h : CollaboratorStep it s t) :
    SameButLatches s t := by
  cases h <;> rfl

/-- Settles O54: an enabled response writes its own latch, fields and buffer, and a tick the tick latch. -/
theorem collaboratorsWriteOnlyTheLatches : Obligations.CollaboratorsWriteOnlyTheLatches :=
  fun _ _ _ _ ha hw => (runWord_isAgent_next ha hw).sameButLatches

theorem SameButLatches.seq_eq {s t : State} (h : SameButLatches s t) : t.seq = s.seq := by
  rw [SameButLatches] at h
  rw [h]

theorem SameButLatches.chIdx_eq {s t : State} (h : SameButLatches s t) : t.chIdx = s.chIdx := by
  rw [SameButLatches] at h
  rw [h]

/-! ## The counters and the tick latch -/

/-- The FSM counts a request up only where it reports the transmit's result (44_scan_loop.md R196). -/
theorem FsmStep.seq_eq {s t : State} (h : FsmStep s t) :
    t.seq = s.seq ∨ (s.st = stHopTxwait ∧ t.st = stQuiet ∧ t.seq = s.seq + 1) := by
  cases h with
  | reportTx hst _ => exact .inr ⟨hst, rfl, rfl⟩
  | _ => exact .inl rfl

/-- The FSM moves to the next channel only in a hop (43_channel_sequencer.md R172). -/
theorem FsmStep.chIdx_eq {s t : State} (h : FsmStep s t) :
    t.chIdx = s.chIdx ∨ (s.st = stHopPrep ∧ t.st = stHopTxwait ∧ t.chIdx = s.chIdx + 1) := by
  cases h with
  | hop hst => exact .inr ⟨hst, rfl, nextIndex_eq s.chIdx⟩
  | _ => exact .inl rfl

/-- The FSM consumes a tick only where the hop wins (44_scan_loop.md R186), and never sets the latch. -/
theorem FsmStep.tickPending_eq {s t : State} (h : FsmStep s t) :
    t.tickPending = s.tickPending ∨ (s.st = stRacing ∧ t.st = stHopPrep ∧ t.tickPending = false) := by
  cases h with
  | hopWins hst _ => exact .inr ⟨hst, rfl, rfl⟩
  | _ => exact .inl rfl

/-- The collaborators set the tick latch only by TICK (45_interfaces.md R221), and never clear it. -/
theorem CollaboratorStep.tickPending_eq {it : Item} {s t : State} (h : CollaboratorStep it s t) :
    t.tickPending = s.tickPending ∨ (t.tickPending = true ∧ ∃ bs, it = .op .internalOp (6 :: bs)) := by
  cases h with
  | tick bs hit => exact .inr ⟨rfl, bs, hit⟩
  | _ => exact .inl rfl

/-- Settles O55: the FSM's move by its cases; a collaborator's word leaves the counters, and sets the latch only as
TICK. -/
theorem countersAndTickChangeOnlyWhereTheRulesSay : Obligations.CountersAndTickChangeOnlyWhereTheRulesSay := by
  intro s t hagent hn hs
  obtain ⟨rest, ha, -⟩ | ⟨a, -, hm⟩ | ⟨a, -, rfl⟩ | ⟨fmt, bytes, rest, ha, hw⟩ := step_next hs
  · exact absurd rfl (head_ne_reset_of_nextIsNoReset ha hn)
  · have hstep := fsmMove_next hm
    refine ⟨hstep.seq_eq, hstep.chIdx_eq, ?_, ?_⟩
    · intro hset hclear
      obtain hkept | ⟨hst, hst', -⟩ := hstep.tickPending_eq
      · simp [hclear, hset] at hkept
      · exact ⟨hst, hst'⟩
    · intro hclear hset
      obtain hkept | ⟨-, -, hcleared⟩ := hstep.tickPending_eq
      · simp [hclear, hset] at hkept
      · simp [hset] at hcleared
  · refine ⟨.inl rfl, .inl rfl, ?_, ?_⟩ <;> intro hbefore hafter <;> simp [hbefore] at hafter
  · have hword : (Item.op fmt bytes).isAgent = true := by simpa [State.nextIsAgent, ha] using hagent
    have hstep := runWord_isAgent_next hword hw
    refine ⟨.inl hstep.sameButLatches.seq_eq, .inl hstep.sameButLatches.chIdx_eq, ?_, ?_⟩
    · intro hset hclear
      obtain hkept | ⟨hset', -⟩ := hstep.tickPending_eq
      · simp [hclear, hset] at hkept
      · simp [hclear] at hset'
    · intro hclear hset
      obtain hkept | ⟨-, bs, hit⟩ := hstep.tickPending_eq
      · simp [hclear, hset] at hkept
      · exact ⟨bs, rest, hit ▸ ha⟩

/-! ## The datapath -/

/-- Replacing the datapath twice is replacing it once. -/
@[simp] theorem withDp_withDp (d e : Datapath) (o : Host.Outcome State Fault Refusal) :
    withDp d (withDp e o) = withDp d o := by
  cases o <;> rfl

/-- The operation neither reads nor writes the datapath. -/
def DpBlind (i : Instr) : Prop := ∀ (s : State) (d : Datapath), exec i (s.setDp d) = withDp d (exec i s)

theorem dpBlind_sRacing : DpBlind .sRacing := by
  intro s d
  simp only [exec, execSRacing, State.setDp_rxDonePending, State.setDp_tickPending]
  cases raceWinner Config.arbTie s.rxDonePending s.tickPending with
  | none => rfl
  | some w => cases w <;> rfl

theorem dpBlind_sRx : DpBlind .sRx := by
  intro s d
  have hrep : (s.setDp d).rxReport = s.rxReport := rfl
  simp only [exec, execSRx, hrep]
  cases s.rxReport <;> rfl

theorem dpBlind_sHopPrep : DpBlind .sHopPrep := by
  intro s d
  simp only [exec, execSHopPrep_eq]
  rfl

theorem dpBlind_sHopTxwait : DpBlind .sHopTxwait := by
  intro s d
  simp only [exec]
  cases htx : s.txDonePending with
  | false =>
    rw [execSHopTxwait_of_unanswered htx, execSHopTxwait_of_unanswered (s := s.setDp d) htx]
    rfl
  | true =>
    rw [execSHopTxwait_of_answered htx, execSHopTxwait_of_answered (s := s.setDp d) htx]
    rfl

/-- The FSM's rows. -/
theorem dpBlind_of_fsmState {i : Instr} (hi : i.format = .fsmState) : DpBlind i := by
  cases i with
  | sRacing => exact dpBlind_sRacing
  | sRx => exact dpBlind_sRx
  | sHopPrep => exact dpBlind_sHopPrep
  | sHopTxwait => exact dpBlind_sHopTxwait
  | sInit | sIdle | sQuiet | stReserved => exact fun _ _ => rfl
  | _ => cases hi

theorem dpBlind_rxOk (b : List Byte) : DpBlind (.rxOk b) := by
  intro s d
  have hen : (s.setDp d).rxResponseEnabled = s.rxResponseEnabled := rfl
  simp only [exec, execRxOk, hen]
  split
  · rfl
  · split <;> rfl

/-- The radio's rows. -/
theorem dpBlind_of_radioRsp {i : Instr} (hi : i.format = .radioRsp) : DpBlind i := by
  cases i with
  | rxOk b => exact dpBlind_rxOk b
  | rxCrc _ | rxErr _ =>
    intro s d
    have hen : (s.setDp d).rxResponseEnabled = s.rxResponseEnabled := rfl
    simp only [exec, execRxCrc, execRxErr, hen]
    split <;> rfl
  | txOk | txErr _ =>
    intro s d
    have hen : (s.setDp d).txResponseEnabled = s.txResponseEnabled := rfl
    simp only [exec, execTxOk, execTxErr, hen]
    split <;> rfl
  | rspReserved _ => exact fun _ _ => rfl
  | _ => cases hi

/-- The state register's word decodes to a row of the FSM. -/
theorem format_of_decode_fsmState {bytes rest : List Byte} {i : Instr}
    (h : decode .fsmState bytes = .ok (i, rest)) : i.format = .fsmState := by
  unfold decode at h
  split at h
  · cases h
  · simp only [decodeState] at h
    split at h <;> cases h <;> rfl

/-- A response word decodes to a row of the radio's. -/
theorem format_of_decode_radioRsp {bytes rest : List Byte} {i : Instr}
    (h : decode .radioRsp bytes = .ok (i, rest)) : i.format = .radioRsp := by
  rcases decode_radioRsp h with ⟨b, rfl⟩ | ⟨c, rfl⟩ | ⟨k, rfl⟩ | rfl | ⟨k, rfl⟩ | ⟨k, rfl⟩ <;> rfl

/-- A word whose operations are blind to the datapath is. -/
theorem runWord_setDp {fmt : Format} {bytes : List Byte}
    (hblind : ∀ i rest, decode fmt bytes = .ok (i, rest) → DpBlind i) (s : State) (d : Datapath) :
    runWord fmt bytes (s.setDp d) = withDp d (runWord fmt bytes s) := by
  unfold runWord
  split
  · exact hblind _ _ ‹_› s d
  · rfl

/-- The FSM's word does not depend on the datapath, nor does what it selects. -/
theorem fsmMove_setDp (s : State) (d : Datapath) : fsmMove (s.setDp d) = withDp d (fsmMove s) :=
  runWord_setDp (fun _ _ h => dpBlind_of_fsmState (format_of_decode_fsmState h)) s d

theorem runWord_setDp_of_isAgent {fmt : Format} {bytes : List Byte} (ha : (Item.op fmt bytes).isAgent = true)
    (s : State) (d : Datapath) : runWord fmt bytes (s.setDp d) = withDp d (runWord fmt bytes s) := by
  refine runWord_setDp (fun i rest h => ?_) s d
  by_cases hf : fmt = .radioRsp
  · subst hf
    exact dpBlind_of_radioRsp (format_of_decode_radioRsp h)
  · have ht : (Item.op fmt bytes).isTick = true := by
      cases fmt with
      | radioRsp => exact absurd rfl hf
      | _ => exact ha
    obtain ⟨rest', hd⟩ := decode_tick ht
    rw [hd] at h
    cases h
    exact fun _ _ => rfl

/-- An agent's item has the same outcome whatever the datapath holds, but for the datapath itself, which a reset
clears. -/
theorem runItem_setDp {it : Item} (ha : it.isAgent = true) (s : State) (d : Datapath) :
    withDp Datapath.reset (runItem it (s.setDp d)) = withDp Datapath.reset (runItem it s) := by
  have hen : (s.setDp d).fsmEnabled = s.fsmEnabled := rfl
  cases it with
  | reset => rfl
  | fsm => simp only [runItem, fsmMove_setDp, withDp_withDp]
  | step =>
    simp only [runItem, hen]
    split
    · rw [fsmMove_setDp, withDp_withDp]
    · rfl
  | run =>
    have hrun : (s.setDp d).setAgenda (.run :: (s.setDp d).agenda) = (s.setAgenda (.run :: s.agenda)).setDp d := rfl
    simp only [runItem, hen]
    split
    · rw [hrun, fsmMove_setDp, withDp_withDp]
    · rfl
  | op fmt bytes => simp only [runItem, runWord_setDp_of_isAgent ha, withDp_withDp]

theorem runNext_setDp {it : Item} (ha : it.isAgent = true) (s : State) (d : Datapath) :
    withDp Datapath.reset (runNext it (s.setDp d)) = withDp Datapath.reset (runNext it s) := by
  by_cases hreset : it = .reset
  · subst hreset
    rfl
  · by_cases hst : s.st = stReserved
    · rw [runNext_of_st_reserved hst hreset, runNext_of_st_reserved (s := s.setDp d) hst hreset]
    · rw [runNext_of_st_ne_reserved it hst, runNext_of_st_ne_reserved (s := s.setDp d) it hst]
      exact runItem_setDp ha s d

/-- Settles O57: the agenda is not the datapath's, and no agent's item reads the datapath. -/
theorem noAgentReadsTheDatapath : Obligations.NoAgentReadsTheDatapath := by
  intro s d hagent
  obtain ⟨ha, -⟩ | ⟨it, rest, ha, -⟩ := step_cases s
  · rw [step_of_agenda_nil ha, step_of_agenda_nil (s := s.setDp d) ha]
    exact runNext_setDp rfl s d
  · have hit : it.isAgent = true := by simpa [State.nextIsAgent, ha] using hagent
    rw [step_of_agenda_cons ha, step_of_agenda_cons (s := s.setDp d) ha]
    exact runNext_setDp hit (s.setAgenda rest) d

/-! ## The reserved rows -/

/-- Settles O37: each of the five rows stops on its only path. -/
theorem reservedCodesStop : Obligations.ReservedCodesStop :=
  fun _ => ⟨rfl, fun _ => rfl, fun _ => rfl, rfl, fun _ => rfl⟩

end Sys2Proof.Machine
end

section
/-! SUPPORT. The bytes of a value, one by one, and the buffer primitives made of them (20_memory.md R53). -/

namespace Sys2Proof

/-! ## The bytes of a value -/

/-- Byte `i` of a value is its eight bits from bit `8 * i` on. -/
theorem getElem_leBytes (n v i : Nat) (h : i < (leBytes n v).length) :
    (leBytes n v)[i] = BitVec.ofNat 8 (v / 2 ^ (8 * i)) := by
  induction n generalizing v i with
  | zero => simp [leBytes] at h
  | succ n ih =>
    cases i with
    | zero => simp [leBytes]
    | succ i =>
      have hpow : 2 ^ (8 * (i + 1)) = 256 * 2 ^ (8 * i) := by
        rw [Nat.mul_succ, Nat.pow_add, Nat.mul_comm]
      simp only [leBytes, List.getElem_cons_succ, ih, Nat.div_div_eq_div_mul, hpow]

/-- Byte `i` of a word is the field of eight bits at bit `8 * i`. -/
theorem getElem_leBytes_toNat {w : Nat} (n : Nat) (v : BitVec w) (i : Nat) (h : i < (leBytes n v.toNat).length) :
    (leBytes n v.toNat)[i] = v.extractLsb' (8 * i) 8 := by
  rw [getElem_leBytes]
  exact (extractLsb_of_toNat (by simp)).symm

/-- The value of bytes is the sum of the bytes, byte `i` shifted by `8 * i` bits. -/
theorem leNat_eq_sum (bs : List Byte) :
    leNat bs = ((List.range bs.length).map fun i => (bs.getD i 0).toNat * 2 ^ (8 * i)).sum := by
  induction bs with
  | nil => rfl
  | cons b bs ih =>
    have hshift (i : Nat) : (bs.getD i 0).toNat * 2 ^ (8 * (i + 1)) = 256 * ((bs.getD i 0).toNat * 2 ^ (8 * i)) := by
      rw [Nat.mul_succ, Nat.pow_add]
      ring
    simp only [leNat, ih, List.length_cons, List.range_succ_eq_map, List.map_cons, List.sum_cons, List.map_map,
      Function.comp_def, List.getD_cons_zero, List.getD_cons_succ, hshift, List.sum_map_mul_left]
    simp

end Sys2Proof

namespace Sys2Proof.Machine

/-! ## MemWrite -/

/-- Byte `i` of the value stands at the offset plus `i`. -/
theorem bufRead_memWrite_inside (m : Memory) (off : Nat) {n i : Nat} (v : BitVec 64) (h : i < n) :
    bufRead (memWrite m off n v) (off + i) = some (v.extractLsb' (8 * i) 8) := by
  rw [memWrite, bufRead_bufWriteBytes_inside _ _ _ _ (by simpa using h), getElem_leBytes_toNat]

/-- Every other offset is unchanged. -/
theorem bufRead_memWrite_outside (m : Memory) {off n a : Nat} (v : BitVec 64) (h : a < off ∨ off + n ≤ a) :
    bufRead (memWrite m off n v) a = bufRead m a := by
  rcases h with hbelow | habove
  · exact bufRead_bufWriteBytes_below _ _ _ _ hbelow
  · exact bufRead_bufWriteBytes_above _ _ _ _ (by simpa using habove)

/-! ## MemRead -/

/-- The bytes read hold at most 64 bits, so the value is theirs (no bit is lost). -/
theorem toNat_memRead (b : List Byte) (off : Nat) {n : Nat} (hn : n ≤ 8) :
    (memRead b off n).toNat = leNat ((b.drop off).take n) := by
  have hlt : leNat ((b.drop off).take n) < 2 ^ 64 := by
    calc leNat ((b.drop off).take n) < 256 ^ ((b.drop off).take n).length := leNat_lt _
      _ ≤ 256 ^ 8 := Nat.pow_le_pow_right (by omega) ((List.length_take_le n _).trans hn)
  rw [memRead, BitVec.toNat_ofNat, Nat.mod_eq_of_lt hlt]

/-- A byte of the part read is the byte at its own offset. -/
theorem getD_take_drop (b : List Byte) (off : Nat) {n i : Nat} (h : i < n) :
    ((b.drop off).take n).getD i 0 = b.getD (off + i) 0 := by
  simp [List.getD_eq_getElem?_getD, h]

/-- MemRead is the sum of the bytes, byte `i` shifted by `8 * i` bits. -/
theorem toNat_memRead_eq_sum {b : List Byte} {off n : Nat} (hn : n ≤ 8) (h : off + n ≤ b.length) :
    (memRead b off n).toNat = ((List.range n).map fun i => (b.getD (off + i) 0).toNat * 2 ^ (8 * i)).sum := by
  have hlen : ((b.drop off).take n).length = n := by simp; omega
  rw [toNat_memRead b off hn, leNat_eq_sum, hlen]
  refine congrArg List.sum (List.map_congr_left fun i hi => ?_)
  rw [getD_take_drop b off (List.mem_range.1 hi)]

/-- Settles O7: a write byte by byte, a read as the sum of its bytes, of which all but the
first are multiples of 256. -/
theorem bufferPrimitivesAreLittleEndian : Obligations.BufferPrimitivesAreLittleEndian := by
  refine ⟨?inside, ?outside, ?sum, ?lowByte⟩
  case inside =>
    intro m off n i v _ hi
    exact bufRead_memWrite_inside m off v hi
  case outside =>
    intro m off n a v ha
    exact bufRead_memWrite_outside m v ha
  case sum =>
    intro b off n hn h
    exact toNat_memRead_eq_sum (by omega) h
  case lowByte =>
    intro b off h
    have hsum : (memRead b off 2).toNat = (b.getD off 0).toNat + (b.getD (off + 1) 0).toNat * 256 := by
      rw [toNat_memRead_eq_sum (by omega) h]
      simp [List.range_succ]
    have hbyte := (b.getD off 0).isLt
    refine extractLsb_of_toNat ?_
    rw [hsum]
    omega

end Sys2Proof.Machine
end

section
/-! SUPPORT. What an operation can do to the two frame buffers, said once: leave them, write a frame that fits into
`tx_buf`, or replace what `rx_buf` holds by a frame that fits. -/

namespace Sys2Proof.Machine

/-- The operations' effects on the buffers (20_memory.md R50, R61, R62). -/
inductive BufferStep (s t : State) : Prop where
  | kept (htx : t.txBuf = s.txBuf) (hrx : t.rxBuf = s.rxBuf)
  | encoded (bs : List Byte) (hfits : bs.length ≤ Config.maxFrameLen) (htx : t.txBuf = bufWriteBytes s.txBuf 0 bs)
      (hrx : t.rxBuf = s.rxBuf)
  | received (bs : List Byte) (hfits : bs.length ≤ Config.maxFrameLen) (htx : t.txBuf = s.txBuf)
      (hrx : t.rxBuf = bufWriteBytes [] 0 bs)

/-- A record ENCODE takes fits into the buffer (40_frame_codec.md R114 (8)). -/
theorem length_encodeFrame_le {f : Frame} (h : f.wf = true) : (encodeFrame f).length ≤ Config.maxFrameLen := by
  simp only [Frame.wf, Bool.and_eq_true, decide_eq_true_eq] at h
  exact h.2

/-- ENCODE answers a next state only for a well-formed record, whose bytes it writes. -/
theorem execEncode_next {s t : State} (h : execEncode s = .next t) :
    s.dp.frame.wf = true ∧ ∃ d, t = (s.putTxFrame (encodeFrame s.dp.frame)).setDp d := by
  unfold execEncode at h
  split at h
  · cases h
    exact ⟨‹_›, _, rfl⟩
  · cases h

/-- DECODE changes only the datapath. -/
theorem execDecode_next {s t : State} (h : execDecode s = .next t) : ∃ d, t = s.setDp d := by
  unfold execDecode at h
  split at h
  · cases h
  · cases h
    exact ⟨_, rfl⟩

namespace BufferStep

variable {s t : State}

/-- A receive response without a frame leaves no byte with a value (20_memory.md R68). -/
theorem of_dropped (htx : t.txBuf = s.txBuf) (hrx : t.rxBuf = []) : BufferStep s t :=
  .received [] (Nat.zero_le _) htx hrx

theorem of_execSRacing (h : execSRacing s = .next t) : BufferStep s t := by
  obtain ⟨-, -, rfl⟩ | ⟨-, -, rfl⟩ | ⟨-, -, rfl⟩ := execSRacing_next h <;> exact .kept rfl rfl

theorem of_execSHopPrep (h : execSHopPrep s = .next t) : BufferStep s t := by
  rw [execSHopPrep_eq] at h
  cases h
  exact .encoded s.request (length_encodeFrame_le (wf_buildRequest s.seq)) rfl rfl

theorem of_execSHopTxwait (h : execSHopTxwait s = .next t) : BufferStep s t := by
  obtain ⟨-, rfl⟩ | ⟨-, rfl⟩ := execSHopTxwait_next h <;> exact .kept rfl rfl

/-- Every operation of the table. -/
theorem of_exec {i : Instr} (h : exec i s = .next t) : BufferStep s t := by
  cases i with
  | frameBeacon _ | frameData _ | frameAck _ | frameCommand _ | frameTypeReserved _
  | dstNone _ | dstModeReserved _ | dstShort _ | dstExt _
  | srcNone _ | srcModeReserved _ | srcShort _ | srcExt _
  | version2003 _ | version2006 _ | versionReserved _ =>
    obtain ⟨d, rfl⟩ := runStage_next h
    exact .kept rfl rfl
  | decode =>
    obtain ⟨d, rfl⟩ := execDecode_next h
    exact .kept rfl rfl
  | encode =>
    obtain ⟨hwf, d, rfl⟩ := execEncode_next h
    exact .encoded _ (length_encodeFrame_le hwf) rfl rfl
  | rxOk b =>
    obtain ⟨-, -, hb, rfl⟩ := execRxOk_next h
    exact .received b hb rfl rfl
  | rxCrc _ =>
    obtain ⟨-, -, rfl⟩ := execRxCrc_next h
    exact of_dropped rfl rfl
  | rxErr _ =>
    obtain ⟨-, -, rfl⟩ := execRxErr_next h
    exact of_dropped rfl rfl
  | txOk =>
    obtain ⟨-, -, rfl⟩ := execTxOk_next h
    exact .kept rfl rfl
  | txErr _ =>
    obtain ⟨-, -, rfl⟩ := execTxErr_next h
    exact .kept rfl rfl
  | sRacing => exact of_execSRacing h
  | sRx =>
    obtain ⟨e, -, rfl⟩ := execSRx_next h
    exact .kept rfl rfl
  | sHopPrep => exact of_execSHopPrep h
  | sHopTxwait => exact of_execSHopTxwait h
  | cmdBeaconRequest | cmdOther _ | tune _ | rxStart | rxAbort | txStart _
  | beaconObserved _ _ _ _ _ _ | decodeError _ _ _ | linkQualityFault _ _ | receiveFault _ _ | requestSent _ _
  | transmitFault _ _ _ | sInit | sIdle | sQuiet | current | advance | buildRequest | classify | tick =>
    cases h
    exact .kept rfl rfl
  | rspReserved _ | eventReserved _ | stReserved | iopReserved7 | iopReserved8F _ => cases h

theorem of_runWord {fmt : Format} {bytes : List Byte} (h : runWord fmt bytes s = .next t) : BufferStep s t := by
  obtain ⟨i, rest, -, he⟩ := runWord_next h
  exact of_exec he

/-- Each effect writes at offsets inside the buffer only, which keeps the canonical form. -/
theorem wf (h : BufferStep s t) (htx : Memory.wf s.txBuf = true) (hrx : Memory.wf s.rxBuf = true) :
    Memory.wf t.txBuf = true ∧ Memory.wf t.rxBuf = true := by
  cases h with
  | kept htx' hrx' => exact ⟨htx' ▸ htx, hrx' ▸ hrx⟩
  | encoded bs hfits htx' hrx' => exact ⟨htx' ▸ wf_bufWriteBytes bs htx (by omega), hrx' ▸ hrx⟩
  | received bs hfits htx' hrx' => exact ⟨htx' ▸ htx, hrx' ▸ wf_bufWriteBytes bs wf_nil (by omega)⟩

end BufferStep

/-- Settles O8: a reset empties both buffers, a wait leaves them, and the FSM's move and a word run an operation of the
table, whose effect on the buffers keeps the form. -/
theorem stepKeepsBuffersCanonical : Obligations.StepKeepsBuffersCanonical := by
  intro s t htx hrx hs
  obtain ⟨rest, -, rfl⟩ | ⟨a, -, hm⟩ | ⟨a, -, rfl⟩ | ⟨fmt, bytes, rest, -, hw⟩ := step_next hs
  · exact ⟨wf_nil, wf_nil⟩
  · exact (BufferStep.of_runWord hm).wf htx hrx
  · exact ⟨htx, hrx⟩
  · exact (BufferStep.of_runWord hw).wf htx hrx

end Sys2Proof.Machine
end

section
/-! SUPPORT. When received bytes cannot be read, and what reads them: DECODE and the rows of the four FCF selectors. -/

namespace Sys2Proof.Machine

/-! ## Why a frame cannot be read -/

/-- A read fails only at an offset that holds no value. -/
theorem exists_bufRead_none {m : Memory} {a n : Nat} (h : bufReadBytes m a n = none) :
    ∃ k, k < n ∧ bufRead m (a + k) = none := by
  induction n generalizing a with
  | zero => simp [bufReadBytes] at h
  | succ n ih =>
    cases hr : bufRead m a with
    | none => exact ⟨0, by omega, hr⟩
    | some v =>
      simp only [bufReadBytes, hr, Option.map_eq_none_iff] at h
      obtain ⟨k, hk, hnone⟩ := ih h
      exact ⟨k + 1, by omega, by rwa [show a + (k + 1) = a + 1 + k by omega]⟩

/-- The two reasons: the length passes the buffer, or it does not and a byte below it holds no value. -/
theorem rxFrame_error {s : State} {e : Fault} (h : s.rxFrame = .error e) :
    (e = .offsetPastBuffer ∧ Config.maxFrameLen < s.rxLen.toNat) ∨
    (e = .unspecifiedByte ∧ s.rxLen.toNat ≤ Config.maxFrameLen ∧
      ∃ a, a < s.rxLen.toNat ∧ bufRead s.rxBuf a = none) := by
  unfold State.rxFrame at h
  split at h
  · cases h
    exact .inl ⟨rfl, ‹_›⟩
  · split at h
    · cases h
      obtain ⟨k, hk, hnone⟩ := exists_bufRead_none ‹_›
      exact .inr ⟨rfl, by omega, k, hk, by rwa [Nat.zero_add] at hnone⟩
    · cases h

/-! ## What reads the frame -/

theorem execDecode_of_error {s : State} {e : Fault} (h : s.rxFrame = .error e) : execDecode s = .fault e := by
  simp only [execDecode, h]

/-- A row of an FCF selector runs a stage of DECODE on the received frame (30_encoding.md R72 to R74). -/
theorem exec_eq_runStage_of_mem_fcfRows {i : Instr} {f : Fcf} (h : i ∈ fcfRows f) :
    ∃ (α : Type) (stage : List Byte → Except DecErr α) (upd : Frame → α → Frame),
      ∀ s, exec i s = runStage s stage upd := by
  cases i with
  | frameBeacon g | frameData g | frameAck g | frameCommand g =>
    exact ⟨_, _, _, fun s => (rfl : runContent g s = _)⟩
  | dstNone g | dstShort g | dstExt g => exact ⟨_, _, _, fun s => (rfl : runDst g s = _)⟩
  | srcNone g | srcShort g | srcExt g => exact ⟨_, _, _, fun s => (rfl : runSrc g s = _)⟩
  | frameTypeReserved g | dstModeReserved g | srcModeReserved g | version2003 g | version2006 g | versionReserved g =>
    exact ⟨_, _, _, fun s => (rfl : runHeader g s = _)⟩
  | _ => simp [fcfRows] at h

/-- Settles O32: DECODE and every row read the frame first, and the read has two reasons to fail, which exclude each
other. -/
theorem unreadableBytesStopTheDecoder : Obligations.UnreadableBytesStopTheDecoder := by
  intro s e i f hi herr
  have hstop : exec i s = .fault e := by
    rcases hi with rfl | hrow
    · exact execDecode_of_error herr
    · obtain ⟨α, stage, upd, hrun⟩ := exec_eq_runStage_of_mem_fcfRows hrow
      rw [hrun, runStage_of_error herr]
  obtain ⟨rfl, hlong⟩ | ⟨rfl, hfits, hbyte⟩ := rxFrame_error herr
  · exact ⟨hstop, iff_of_true rfl hlong, nofun⟩
  · exact ⟨hstop, iff_of_false nofun (Nat.not_lt.2 hfits), fun _ => hbyte⟩

end Sys2Proof.Machine
end

section
/-! SUPPORT. The fields of the port words in the order of their bits: each is the field the word was laid out from, and
the bits between them are 0 (30_encoding.md R86, R88, R90). -/

namespace Sys2Proof

/-- Bits of a word that are 0, by their number. -/
theorem extractLsb_eq_zero {w n : Nat} {x : BitVec w} {lo : Nat} (h : x.toNat / 2 ^ lo % 2 ^ n = 0) :
    x.extractLsb' lo n = 0 :=
  extractLsb_of_toNat (by rw [h]; rfl)

theorem rcmdWord_fields (op : BitVec 2) (chan : BitVec 5) (len : BitVec 7) :
    let w := rcmdWord op chan len
    w.extractLsb' 0 2 = op ∧ w.extractLsb' 2 6 = 0 ∧ w.extractLsb' 8 5 = chan ∧ w.extractLsb' 13 3 = 0 ∧
      w.extractLsb' 16 7 = len ∧ w.extractLsb' 23 9 = 0 := by
  have hword := toNat_rcmdWord op chan len
  have := op.isLt; have := chan.isLt; have := len.isLt
  refine ⟨?_, ?resv2, ?_, ?resv13, ?_, ?resv23⟩
  case resv2 | resv13 | resv23 => apply extractLsb_eq_zero; omega
  all_goals apply extractLsb_of_toNat; omega

theorem rrspWord_fields (kind : BitVec 3) (len : BitVec 7) (err : BitVec 8) (crc : BitVec 16) :
    let w := rrspWord kind len err crc
    w.extractLsb' 0 3 = kind ∧ w.extractLsb' 3 5 = 0 ∧ w.extractLsb' 8 7 = len ∧ w.extractLsb' 15 1 = 0 ∧
      w.extractLsb' 16 8 = err ∧ w.extractLsb' 24 8 = 0 ∧ w.extractLsb' 32 16 = crc := by
  have hword := toNat_rrspWord kind len err crc
  have := kind.isLt; have := len.isLt; have := err.isLt; have := crc.isLt
  refine ⟨?_, ?resv3, ?_, ?resv15, ?_, ?resv24, ?_⟩
  case resv3 | resv15 | resv24 => apply extractLsb_eq_zero; omega
  all_goals apply extractLsb_of_toNat; omega

theorem evtWord_fields (code : BitVec 3) (chan : BitVec 5) (seq : BitVec 8) (v16 : BitVec 16) (smode : BitVec 2)
    (coord join : Bool) (k8 : BitVec 8) (len : BitVec 7) (saddr : BitVec 64) :
    let w := evtWord code chan seq v16 smode coord join k8 len saddr
    w.extractLsb' 0 3 = code ∧ w.extractLsb' 3 5 = chan ∧ w.extractLsb' 8 8 = seq ∧ w.extractLsb' 16 16 = v16 ∧
      w.extractLsb' 32 2 = smode ∧ w.getLsbD 34 = coord ∧ w.getLsbD 35 = join ∧ w.extractLsb' 36 8 = k8 ∧
      w.extractLsb' 44 7 = len ∧ w.extractLsb' 51 13 = 0 ∧ w.extractLsb' 64 64 = saddr := by
  have hword := toNat_evtWord code chan seq v16 smode coord join k8 len saddr
  have := code.isLt; have := chan.isLt; have := seq.isLt; have := v16.isLt; have := smode.isLt
  have := Bool.toNat_le coord; have := Bool.toNat_le join; have := k8.isLt; have := len.isLt; have := saddr.isLt
  refine ⟨?_, ?_, ?_, ?_, ?_, ?coord, ?join, ?_, ?_, ?resv51, ?_⟩
  case resv51 => apply extractLsb_eq_zero; omega
  case coord | join => apply getLsbD_of_toNat; omega
  all_goals apply extractLsb_of_toNat; omega

/-- The number of bytes a word hands over fits its seven bits (30_encoding.md R88, R90). -/
theorem toNat_ofNat_length {bytes : List Byte} (h : bytes.length ≤ Config.maxFrameLen) :
    (BitVec.ofNat 7 bytes.length).toNat = bytes.length := by
  simp only [Config.maxFrameLen] at h
  simp only [BitVec.toNat_ofNat]
  omega

end Sys2Proof

namespace Sys2Proof.Machine

/-- Every command's word is laid out as a radio command word. -/
theorem Rcmd.word_eq_rcmdWord (c : Rcmd) : ∃ op chan len, c.word = rcmdWord op chan len := by
  cases c <;> exact ⟨_, _, _, rfl⟩

/-- Settles O4: every command's word is one word layout, TUNE's with length 0 and TX_START's with channel 0. -/
theorem radioCommandWordLayout : Obligations.RadioCommandWordLayout := by
  refine ⟨?reserved, ?tune, ?txStart, rfl, rfl⟩
  case reserved =>
    intro c
    obtain ⟨op, chan, len, hword⟩ := c.word_eq_rcmdWord
    obtain ⟨-, h2, -, h13, -, h23⟩ := rcmdWord_fields op chan len
    rw [hword]
    exact ⟨h2, h13, h23⟩
  case tune =>
    intro chan
    obtain ⟨hop, -, hchan, -, hlen, -⟩ := rcmdWord_fields 0 chan 0
    exact ⟨hop, hchan, hlen⟩
  case txStart =>
    intro len
    obtain ⟨hop, -, hchan, -, hlen, -⟩ := rcmdWord_fields 3 0 len
    exact ⟨hop, hchan, hlen⟩

/-- Settles O5: the response word's fields, and the bits between them. -/
theorem radioResponseWordLayout : Obligations.RadioResponseWordLayout := rrspWord_fields

/-- Settles O6: the header is the event word of the record's fields, so only the table's code and the number of raw
bytes are left to read off it. -/
theorem eventHeaderLayout : Obligations.EventHeaderLayout := by
  intro e hraw
  obtain ⟨hcode, hchan, hseq, hv16, hsmode, hcoord, hjoin, hk8, hlen, hresv, hsaddr⟩ :=
    evtWord_fields e.code.bits e.chan e.seq e.v16 e.smode e.coord e.join e.k8 (BitVec.ofNat 7 e.raw.length) e.saddr
  refine ⟨?tableCode, hchan, hseq, hv16, hsmode, hcoord, hjoin, hk8, ?rawLength, hresv, hsaddr⟩
  case tableCode =>
    rw [Evt.header, hcode]
    cases e.code <;> decide
  case rawLength => rw [Evt.header, hlen, toNat_ofNat_length hraw]

end Sys2Proof.Machine
end

section
/-! SUPPORT. The decoder as a function of a word's value, what each format's decoder reads from its own words, and the
round trip made of them. -/

namespace Sys2Proof

/-! ## The decoder on a word's value -/

/-- What the decoder reads once the word is there: the operation of the word's value, and what follows it. -/
def decodeValue (fmt : Format) (v : Nat) (rest : List Byte) : Except DecodeReject (Instr × List Byte) :=
  match fmt with
  | .fcfFrameType => .ok (decodeFrameType (Fcf.ofWord (BitVec.ofNat 16 v)), rest)
  | .fcfDstAddrMode => .ok (decodeDstMode (Fcf.ofWord (BitVec.ofNat 16 v)), rest)
  | .fcfSrcAddrMode => .ok (decodeSrcMode (Fcf.ofWord (BitVec.ofNat 16 v)), rest)
  | .fcfFrameVersion => .ok (decodeVersion (Fcf.ofWord (BitVec.ofNat 16 v)), rest)
  | .macCommandId => .ok (decodeCommandId (BitVec.ofNat 8 v), rest)
  | .radioCmd => .ok (decodeRcmd (BitVec.ofNat 32 v), rest)
  | .radioRsp => decodeRrsp (BitVec.ofNat 48 v) rest
  | .event => decodeEvt (BitVec.ofNat 128 v) rest
  | .fsmState => (decodeState v).map fun i => (i, rest)
  | .internalOp => (decodeIop v).map fun i => (i, rest)

/-- The decoder rejects a word cut short, and otherwise reads the word's value. -/
theorem decode_eq (fmt : Format) (bs : List Byte) : decode fmt bs =
    if bs.length < fmt.bytes then .error .truncatedWord
    else decodeValue fmt (leNat (bs.take fmt.bytes)) (bs.drop fmt.bytes) := by
  cases fmt <;> rfl

/-- A word laid out in its format's bytes is read by its value. -/
theorem decode_leBytes_append {fmt : Format} {v : Nat} (h : v < 256 ^ fmt.bytes) (rest : List Byte) :
    decode fmt (leBytes fmt.bytes v ++ rest) = decodeValue fmt v rest := by
  have hlen : ¬(leBytes fmt.bytes v ++ rest).length < fmt.bytes := by simp
  have htake : (leBytes fmt.bytes v ++ rest).take fmt.bytes = leBytes fmt.bytes v :=
    List.take_left' (length_leBytes _ _)
  have hdrop : (leBytes fmt.bytes v ++ rest).drop fmt.bytes = rest := List.drop_left' (length_leBytes _ _)
  rw [decode_eq, if_neg hlen, htake, hdrop, leNat_leBytes_of_lt h]

/-- The value of a row's word fits its format's bytes. -/
theorem encodeWord_lt (i : Instr) : encodeWord i < 256 ^ i.format.bytes := by
  cases i with
  | iopReserved8F iop => exact iop.isLt.trans (show 2 ^ 4 < 256 ^ 1 by decide)
  | cmdBeaconRequest | sInit | sIdle | sRacing | sRx | sHopPrep | sHopTxwait | sQuiet | stReserved | current | advance
  | buildRequest | encode | decode | classify | tick | iopReserved7 => decide
  | _ => exact BitVec.isLt _

/-- The decoder on an encoded operation reads its word's value, with the bytes handed over still before what follows. -/
theorem decode_encode_append (i : Instr) (rest : List Byte) :
    decode i.format (encode i ++ rest) = decodeValue i.format (encodeWord i) (encodePayload i ++ rest) := by
  rw [encode, List.append_assoc, decode_leBytes_append (encodeWord_lt i)]

/-! ## Each format's decoder on its own words -/

/-- The bytes a word hands over are taken off what follows it. -/
theorem takePayload_append (bytes rest : List Byte) : takePayload bytes.length (bytes ++ rest) = .ok (bytes, rest) := by
  simp [takePayload]

theorem decodeValue_fcfFrameType (f : Fcf) (rest : List Byte) :
    decodeValue .fcfFrameType f.toWord.toNat rest = .ok (decodeFrameType f, rest) := by
  simp [decodeValue, f.ofWord_toWord]

theorem decodeValue_fcfDstAddrMode (f : Fcf) (rest : List Byte) :
    decodeValue .fcfDstAddrMode f.toWord.toNat rest = .ok (decodeDstMode f, rest) := by
  simp [decodeValue, f.ofWord_toWord]

theorem decodeValue_fcfSrcAddrMode (f : Fcf) (rest : List Byte) :
    decodeValue .fcfSrcAddrMode f.toWord.toNat rest = .ok (decodeSrcMode f, rest) := by
  simp [decodeValue, f.ofWord_toWord]

theorem decodeValue_fcfFrameVersion (f : Fcf) (rest : List Byte) :
    decodeValue .fcfFrameVersion f.toWord.toNat rest = .ok (decodeVersion f, rest) := by
  simp [decodeValue, f.ofWord_toWord]

theorem decodeValue_macCommandId (cid : BitVec 8) (rest : List Byte) :
    decodeValue .macCommandId cid.toNat rest = .ok (decodeCommandId cid, rest) := by
  simp [decodeValue]

theorem decodeValue_radioCmd (w : BitVec 32) (rest : List Byte) :
    decodeValue .radioCmd w.toNat rest = .ok (decodeRcmd w, rest) := by
  simp [decodeValue]

theorem decodeValue_radioRsp (w : BitVec 48) (rest : List Byte) :
    decodeValue .radioRsp w.toNat rest = decodeRrsp w rest := by
  simp [decodeValue]

theorem decodeValue_event (w : BitVec 128) (rest : List Byte) :
    decodeValue .event w.toNat rest = decodeEvt w rest := by
  simp [decodeValue]

/-! ## The round trip of each format -/

/-- The operation is read back from its word's value and the bytes handed over, whatever follows them. -/
def RoundTrips (i : Instr) : Prop :=
  ∀ rest, decodeValue i.format (encodeWord i) (encodePayload i ++ rest) = .ok (i, rest)

theorem roundTrips_fcfFrameType {i : Instr} (hwf : i.WellFormed = true) (hf : i.format = .fcfFrameType) :
    RoundTrips i := by
  intro rest
  cases i with
  | frameBeacon f | frameData f | frameAck f | frameCommand f =>
    have hsel := eq_of_beq hwf
    exact (decodeValue_fcfFrameType f rest).trans (by rw [decodeFrameType, hsel]; rfl)
  | frameTypeReserved f =>
    have hsel : 4 ≤ f.ftype.toNat := of_decide_eq_true hwf
    refine (decodeValue_fcfFrameType f rest).trans ?_
    unfold decodeFrameType
    split
    any_goals omega
    rfl
  | _ => cases hf

theorem roundTrips_fcfDstAddrMode {i : Instr} (hwf : i.WellFormed = true) (hf : i.format = .fcfDstAddrMode) :
    RoundTrips i := by
  intro rest
  cases i with
  | dstNone f | dstModeReserved f | dstShort f | dstExt f =>
    have hsel := eq_of_beq hwf
    exact (decodeValue_fcfDstAddrMode f rest).trans (by rw [decodeDstMode, hsel]; rfl)
  | _ => cases hf

theorem roundTrips_fcfSrcAddrMode {i : Instr} (hwf : i.WellFormed = true) (hf : i.format = .fcfSrcAddrMode) :
    RoundTrips i := by
  intro rest
  cases i with
  | srcNone f | srcModeReserved f | srcShort f | srcExt f =>
    have hsel := eq_of_beq hwf
    exact (decodeValue_fcfSrcAddrMode f rest).trans (by rw [decodeSrcMode, hsel]; rfl)
  | _ => cases hf

theorem roundTrips_fcfFrameVersion {i : Instr} (hwf : i.WellFormed = true) (hf : i.format = .fcfFrameVersion) :
    RoundTrips i := by
  intro rest
  cases i with
  | version2003 f | version2006 f =>
    have hsel := eq_of_beq hwf
    exact (decodeValue_fcfFrameVersion f rest).trans (by rw [decodeVersion, hsel]; rfl)
  | versionReserved f =>
    have hsel : 2 ≤ f.fver.toNat := of_decide_eq_true hwf
    refine (decodeValue_fcfFrameVersion f rest).trans ?_
    unfold decodeVersion
    split
    any_goals omega
    rfl
  | _ => cases hf

theorem roundTrips_macCommandId {i : Instr} (hwf : i.WellFormed = true) (hf : i.format = .macCommandId) :
    RoundTrips i := by
  intro rest
  cases i with
  | cmdBeaconRequest => rfl
  | cmdOther cid =>
    have hother : cid ≠ 7 := by simpa [Instr.WellFormed] using hwf
    exact (decodeValue_macCommandId cid rest).trans (by rw [decodeCommandId, if_neg hother])
  | _ => cases hf

theorem roundTrips_radioCmd {i : Instr} (hf : i.format = .radioCmd) : RoundTrips i := by
  intro rest
  cases i with
  | tune chan =>
    obtain ⟨hop, -, hchan, -⟩ := rcmdWord_fields 0 chan 0
    exact (decodeValue_radioCmd _ rest).trans (by rw [decodeRcmd, hop, hchan]; rfl)
  | txStart len =>
    obtain ⟨hop, -, -, -, hlen, -⟩ := rcmdWord_fields 3 0 len
    exact (decodeValue_radioCmd _ rest).trans (by rw [decodeRcmd, hop, hlen]; rfl)
  | rxStart | rxAbort => rfl
  | _ => cases hf

theorem roundTrips_radioRsp {i : Instr} (hwf : i.WellFormed = true) (hf : i.format = .radioRsp) : RoundTrips i := by
  intro rest
  cases i with
  | rxOk bytes =>
    have hbytes : bytes.length ≤ Config.maxFrameLen := of_decide_eq_true hwf
    obtain ⟨hkind, -, hlen, -⟩ := rrspWord_fields 0 (BitVec.ofNat 7 bytes.length) 0 0
    refine (decodeValue_radioRsp _ (bytes ++ rest)).trans ?_
    rw [decodeRrsp, hkind, hlen, toNat_ofNat_length hbytes, takePayload_append]
    rfl
  | rxCrc crc =>
    obtain ⟨hkind, -, -, -, -, -, hcrc⟩ := rrspWord_fields 1 0 0 crc
    exact (decodeValue_radioRsp _ rest).trans (by rw [decodeRrsp, hkind, hcrc]; rfl)
  | rxErr err =>
    obtain ⟨hkind, -, -, -, herr, -⟩ := rrspWord_fields 2 0 err 0
    exact (decodeValue_radioRsp _ rest).trans (by rw [decodeRrsp, hkind, herr]; rfl)
  | txOk => rfl
  | txErr err =>
    obtain ⟨hkind, -, -, -, herr, -⟩ := rrspWord_fields 4 0 err 0
    exact (decodeValue_radioRsp _ rest).trans (by rw [decodeRrsp, hkind, herr]; rfl)
  | rspReserved kind =>
    have hreserved : 5 ≤ kind.toNat := of_decide_eq_true hwf
    obtain ⟨hkind, -⟩ := rrspWord_fields kind 0 0 0
    refine (decodeValue_radioRsp _ rest).trans ?_
    rw [decodeRrsp, hkind]
    split
    any_goals omega
    rfl
  | _ => cases hf

theorem roundTrips_event {i : Instr} (hwf : i.WellFormed = true) (hf : i.format = .event) : RoundTrips i := by
  intro rest
  cases i with
  | beaconObserved chan pan smode saddr coord join =>
    obtain ⟨hcode, hchan, -, hpan, hsmode, hcoord, hjoin, -, -, -, hsaddr⟩ :=
      evtWord_fields 0 chan 0 pan smode coord join 0 0 saddr
    refine (decodeValue_event _ rest).trans ?_
    rw [decodeEvt, hcode, hchan, hpan, hsmode, hcoord, hjoin, hsaddr]
    rfl
  | decodeError chan code raw =>
    simp only [Instr.WellFormed, Bool.and_eq_true, decide_eq_true_eq] at hwf
    obtain ⟨-, hraw⟩ := hwf
    obtain ⟨hevt, hchan, -, -, -, -, -, hcode, hlen, -⟩ :=
      evtWord_fields 1 chan 0 0 0 false false code (BitVec.ofNat 7 raw.length) 0
    refine (decodeValue_event _ (raw ++ rest)).trans ?_
    rw [decodeEvt, hevt, hchan, hcode, hlen, toNat_ofNat_length hraw, takePayload_append]
    rfl
  | linkQualityFault chan crc =>
    obtain ⟨hcode, hchan, -, hcrc, -⟩ := evtWord_fields 2 chan 0 crc 0 false false 0 0 0
    exact (decodeValue_event _ rest).trans (by rw [decodeEvt, hcode, hchan, hcrc]; rfl)
  | receiveFault chan kind =>
    obtain ⟨hcode, hchan, -, -, -, -, -, hkind, -⟩ := evtWord_fields 3 chan 0 0 0 false false kind 0 0
    exact (decodeValue_event _ rest).trans (by rw [decodeEvt, hcode, hchan, hkind]; rfl)
  | requestSent chan seq =>
    obtain ⟨hcode, hchan, hseq, -⟩ := evtWord_fields 4 chan seq 0 0 false false 0 0 0
    exact (decodeValue_event _ rest).trans (by rw [decodeEvt, hcode, hchan, hseq]; rfl)
  | transmitFault chan seq kind =>
    obtain ⟨hcode, hchan, hseq, -, -, -, -, hkind, -⟩ := evtWord_fields 5 chan seq 0 0 false false kind 0 0
    exact (decodeValue_event _ rest).trans (by rw [decodeEvt, hcode, hchan, hseq, hkind]; rfl)
  | eventReserved code =>
    have hreserved : 6 ≤ code.toNat := of_decide_eq_true hwf
    obtain ⟨hcode, -⟩ := evtWord_fields code 0 0 0 0 false false 0 0 0
    refine (decodeValue_event _ rest).trans ?_
    rw [decodeEvt, hcode]
    split
    any_goals omega
    rfl
  | _ => cases hf

theorem roundTrips_fsmState {i : Instr} (hf : i.format = .fsmState) : RoundTrips i := by
  intro rest
  cases i with
  | sInit | sIdle | sRacing | sRx | sHopPrep | sHopTxwait | sQuiet | stReserved => rfl
  | _ => cases hf

theorem roundTrips_internalOp {i : Instr} (hwf : i.WellFormed = true) (hf : i.format = .internalOp) :
    RoundTrips i := by
  intro rest
  cases i with
  | iopReserved8F iop =>
    have hreserved : 8 ≤ iop.toNat := of_decide_eq_true hwf
    have hfits : iop.toNat < 16 := iop.isLt
    simp only [decodeValue, Instr.format, encodeWord, encodePayload, decodeIop]
    split
    any_goals omega
    simp [Except.map, hfits]
  | current | advance | buildRequest | encode | decode | classify | tick | iopReserved7 => rfl
  | _ => cases hf

end Sys2Proof

namespace Sys2Proof.Machine

/-- Settles O1: the decoder on an encoded operation reads its word's value, and each format's decoder reads that value
as the operation. -/
theorem decodeOfEncodeIsTheInstruction : Obligations.DecodeOfEncodeIsTheInstruction := by
  intro i rest hwf
  rw [decode_encode_append]
  revert rest
  show RoundTrips i
  cases hf : i.format with
  | fcfFrameType => exact roundTrips_fcfFrameType hwf hf
  | fcfDstAddrMode => exact roundTrips_fcfDstAddrMode hwf hf
  | fcfSrcAddrMode => exact roundTrips_fcfSrcAddrMode hwf hf
  | fcfFrameVersion => exact roundTrips_fcfFrameVersion hwf hf
  | macCommandId => exact roundTrips_macCommandId hwf hf
  | radioCmd => exact roundTrips_radioCmd hf
  | radioRsp => exact roundTrips_radioRsp hwf hf
  | event => exact roundTrips_event hwf hf
  | fsmState => exact roundTrips_fsmState hf
  | internalOp => exact roundTrips_internalOp hwf hf

end Sys2Proof.Machine
end

section
/-! SUPPORT. The row a value selects: every format's rows look at one field of the word, and the row they select by that
field is the operation the format's decoder reads (30_encoding.md R96). -/

namespace Sys2Proof

/-! ## The selector field -/

/-- The lowest bit of the field a format's rows look at, and its width (30_encoding.md R71 to R74, R83, R86 to R93). -/
def Format.selectorField : Format → Nat × Nat
  | .fcfFrameType => (0, 3)
  | .fcfDstAddrMode => (10, 2)
  | .fcfSrcAddrMode => (14, 2)
  | .fcfFrameVersion => (12, 2)
  | .macCommandId => (0, 8)
  | .radioCmd => (0, 2)
  | .radioRsp => (0, 3)
  | .event => (0, 3)
  | .fsmState => (0, 3)
  | .internalOp => (0, 4)

/-- The selector of a value: the field its format's rows look at. -/
def Format.selector (fmt : Format) (v : Nat) : Nat := v / 2 ^ fmt.selectorField.1 % 2 ^ fmt.selectorField.2

/-- A value with a selector and nothing else. -/
def Format.ofSelector (fmt : Format) (k : Nat) : Nat := k <<< fmt.selectorField.1

/-- A value under the mask of a field is the field, in its place. -/
theorem land_fieldMask (v lo n : Nat) : v &&& ((2 ^ n - 1) <<< lo) = (v / 2 ^ lo % 2 ^ n) <<< lo := by
  apply Nat.eq_of_testBit_eq
  intro i
  by_cases h : lo ≤ i <;> simp [h, Nat.testBit_mod_two_pow, Nat.testBit_div_two_pow, Bool.and_comm]

/-- No row of the table looks at a bit outside its format's field. -/
theorem mask_land_fieldMask : ∀ r ∈ opcodeTable,
    ((2 ^ r.fmt.selectorField.2 - 1) <<< r.fmt.selectorField.1) &&& r.mask = r.mask := by
  decide

/-- The selector alone selects the row. -/
theorem selectRow_ofSelector (fmt : Format) (v : Nat) :
    selectRow fmt (fmt.ofSelector (fmt.selector v)) = selectRow fmt v := by
  unfold selectRow
  refine List.find?_congr fun r hr => ?_
  cases hfmt : r.fmt == fmt with
  | false => rfl
  | true =>
    obtain rfl : r.fmt = fmt := eq_of_beq hfmt
    have hmask : r.fmt.ofSelector (r.fmt.selector v) &&& r.mask = v &&& r.mask := by
      rw [Format.ofSelector, Format.selector, ← land_fieldMask, Nat.land_assoc, mask_land_fieldMask r hr]
    rw [hmask]

/-- The selector of a value is a field of its word, where the word is wide enough to hold it. -/
theorem Format.selector_eq_extract (fmt : Format) {w : Nat}
    (hw : fmt.selectorField.1 + fmt.selectorField.2 ≤ w) (v : Nat) :
    fmt.selector v = ((BitVec.ofNat w v).extractLsb' fmt.selectorField.1 fmt.selectorField.2).toNat := by
  rw [toNat_extractLsb, BitVec.toNat_ofNat, Format.selector]
  apply Nat.eq_of_testBit_eq
  intro i
  by_cases hi : i < fmt.selectorField.2
  · have hbit : i + fmt.selectorField.1 < w := by omega
    simp [Nat.testBit_mod_two_pow, Nat.testBit_div_two_pow, hi, hbit]
  · simp [Nat.testBit_mod_two_pow, hi]

/-- Some row stands for every selector, and so for every value. -/
theorem selectRow_isSome (fmt : Format) (v : Nat) : (selectRow fmt v).isSome = true := by
  rw [← selectRow_ofSelector]
  have hlt : fmt.selector v < 2 ^ fmt.selectorField.2 := Nat.mod_lt _ (Nat.two_pow_pos _)
  revert hlt
  generalize fmt.selector v = k
  revert k
  cases fmt with
  | macCommandId =>
    intro k _
    exact List.find?_isSome.2 ⟨⟨"CMD_OTHER", .macCommandId, 0x00, 0x00⟩, by decide, by simp⟩
  | _ => decide

/-! ## The selected row and the decoder -/

/-- The operation is of the format, and the row the value selects is the operation's. -/
def Selected (fmt : Format) (v : Nat) (i : Instr) : Prop :=
  i.format = fmt ∧ ∃ r, selectRow fmt v = some r ∧ r.name = i.mnemonic

/-- It is enough to know the row of the value's selector. -/
theorem Selected.of_selector {fmt : Format} {v k : Nat} {i : Instr} (hfmt : i.format = fmt) (hk : fmt.selector v = k)
    (hrow : (selectRow fmt (fmt.ofSelector k)).map OpcodeRow.name = some i.mnemonic) : Selected fmt v i := by
  rw [← hk, selectRow_ofSelector] at hrow
  exact ⟨hfmt, Option.map_eq_some_iff.1 hrow⟩

theorem selected_decodeFrameType {v : Nat} {f : Fcf} (hsel : Format.selector .fcfFrameType v = f.ftype.toNat) :
    Selected .fcfFrameType v (decodeFrameType f) := by
  unfold decodeFrameType
  have hlt := f.ftype.isLt
  interval_cases f.ftype.toNat <;> exact .of_selector rfl hsel rfl

theorem selected_decodeDstMode {v : Nat} {f : Fcf} (hsel : Format.selector .fcfDstAddrMode v = f.dstMode.toNat) :
    Selected .fcfDstAddrMode v (decodeDstMode f) := by
  unfold decodeDstMode
  have hlt := f.dstMode.isLt
  interval_cases f.dstMode.toNat <;> exact .of_selector rfl hsel rfl

theorem selected_decodeSrcMode {v : Nat} {f : Fcf} (hsel : Format.selector .fcfSrcAddrMode v = f.srcMode.toNat) :
    Selected .fcfSrcAddrMode v (decodeSrcMode f) := by
  unfold decodeSrcMode
  have hlt := f.srcMode.isLt
  interval_cases f.srcMode.toNat <;> exact .of_selector rfl hsel rfl

theorem selected_decodeVersion {v : Nat} {f : Fcf} (hsel : Format.selector .fcfFrameVersion v = f.fver.toNat) :
    Selected .fcfFrameVersion v (decodeVersion f) := by
  unfold decodeVersion
  have hlt := f.fver.isLt
  interval_cases f.fver.toNat <;> exact .of_selector rfl hsel rfl

/-- Every identifier but the beacon request's selects CMD_OTHER (30_encoding.md R83). -/
theorem selectRow_macCommandId_of_ne {v : Nat} (h : v % 256 ≠ 7) :
    selectRow .macCommandId v = some ⟨"CMD_OTHER", .macCommandId, 0x00, 0x00⟩ := by
  have hmask : v &&& 0xFF = v % 256 := Nat.and_two_pow_sub_one_eq_mod v 8
  simp [selectRow, opcodeTable, opcodeRowsFrame, hmask, h]

theorem selected_decodeCommandId (v : Nat) : Selected .macCommandId v (decodeCommandId (BitVec.ofNat 8 v)) := by
  have hcid : (BitVec.ofNat 8 v).toNat = v % 256 := BitVec.toNat_ofNat v 8
  unfold decodeCommandId
  split
  case isTrue hreq =>
    have hsel : Format.selector .macCommandId v = v % 256 := by simp [Format.selector, Format.selectorField]
    exact .of_selector rfl (hsel.trans (hcid.symm.trans (by rw [hreq]))) rfl
  case isFalse hother =>
    have hne : v % 256 ≠ 7 := fun hv => hother (BitVec.eq_of_toNat_eq (hcid.trans hv))
    exact ⟨rfl, _, selectRow_macCommandId_of_ne hne, rfl⟩

theorem selected_decodeRcmd {v : Nat} {w : BitVec 32}
    (hsel : Format.selector .radioCmd v = (w.extractLsb' 0 2).toNat) : Selected .radioCmd v (decodeRcmd w) := by
  unfold decodeRcmd
  have hlt := (w.extractLsb' 0 2).isLt
  interval_cases (w.extractLsb' 0 2).toNat <;> exact .of_selector rfl hsel rfl

/-- An answer of a mapped result comes from an answer of the result. -/
theorem except_map_eq_ok {ε α β : Type} {f : α → β} {x : Except ε α} {b : β} (h : x.map f = .ok b) :
    ∃ a, x = .ok a ∧ f a = b := by
  cases x with
  | error e => cases h
  | ok a => exact ⟨a, rfl, Except.ok.inj h⟩

theorem selected_decodeRrsp {v : Nat} {w : BitVec 48} {rest rest' : List Byte} {i : Instr}
    (hsel : Format.selector .radioRsp v = (w.extractLsb' 0 3).toNat) (h : decodeRrsp w rest = .ok (i, rest')) :
    Selected .radioRsp v i := by
  unfold decodeRrsp at h
  have hlt := (w.extractLsb' 0 3).isLt
  interval_cases (w.extractLsb' 0 3).toNat
  · obtain ⟨x, -, hx⟩ := except_map_eq_ok h
    cases hx
    exact .of_selector rfl hsel rfl
  all_goals
    cases h
    exact .of_selector rfl hsel rfl

theorem selected_decodeEvt {v : Nat} {w : BitVec 128} {rest rest' : List Byte} {i : Instr}
    (hsel : Format.selector .event v = (w.extractLsb' 0 3).toNat) (h : decodeEvt w rest = .ok (i, rest')) :
    Selected .event v i := by
  unfold decodeEvt at h
  have hlt := (w.extractLsb' 0 3).isLt
  interval_cases (w.extractLsb' 0 3).toNat
  · cases h
    exact .of_selector rfl hsel rfl
  · obtain ⟨x, -, hx⟩ := except_map_eq_ok h
    cases hx
    exact .of_selector rfl hsel rfl
  all_goals
    cases h
    exact .of_selector rfl hsel rfl

theorem selected_decodeState {v : Nat} {i : Instr} (h : decodeState v = .ok i) : Selected .fsmState v i := by
  unfold decodeState at h
  split at h <;> cases h <;> exact .of_selector rfl rfl rfl

/-- An operation code has four bits (30_encoding.md R93). -/
theorem lt_of_decodeIop {v : Nat} {i : Instr} (h : decodeIop v = .ok i) : v < 16 := by
  unfold decodeIop at h
  split at h
  any_goals decide
  split at h
  · assumption
  · cases h

theorem selected_decodeIop {v : Nat} {i : Instr} (h : decodeIop v = .ok i) : Selected .internalOp v i := by
  have hlt := lt_of_decodeIop h
  interval_cases v <;> cases h <;> exact .of_selector rfl rfl rfl

/-- Whatever the decoder reads from a word's value is the row that value selects. -/
theorem selected_decodeValue {fmt : Format} {v : Nat} {rest rest' : List Byte} {i : Instr}
    (h : decodeValue fmt v rest = .ok (i, rest')) : Selected fmt v i := by
  cases fmt with
  | fcfFrameType => cases h; exact selected_decodeFrameType (Format.selector_eq_extract _ (by decide) v)
  | fcfDstAddrMode => cases h; exact selected_decodeDstMode (Format.selector_eq_extract _ (by decide) v)
  | fcfSrcAddrMode => cases h; exact selected_decodeSrcMode (Format.selector_eq_extract _ (by decide) v)
  | fcfFrameVersion => cases h; exact selected_decodeVersion (Format.selector_eq_extract _ (by decide) v)
  | macCommandId => cases h; exact selected_decodeCommandId v
  | radioCmd => cases h; exact selected_decodeRcmd (Format.selector_eq_extract _ (by decide) v)
  | radioRsp => exact selected_decodeRrsp (Format.selector_eq_extract _ (by decide) v) h
  | event => exact selected_decodeEvt (Format.selector_eq_extract _ (by decide) v) h
  | fsmState =>
    obtain ⟨j, hj, hpair⟩ := except_map_eq_ok h
    cases hpair
    exact selected_decodeState hj
  | internalOp =>
    obtain ⟨j, hj, hpair⟩ := except_map_eq_ok h
    cases hpair
    exact selected_decodeIop hj

end Sys2Proof

namespace Sys2Proof.Machine

/-- Settles O2: some row stands for every selector, and the decoder reads the row of its word's value. -/
theorem decodeSelectsFirstMatchingRow : Obligations.DecodeSelectsFirstMatchingRow := by
  refine ⟨selectRow_isSome, fun fmt bs rest i h => ?_⟩
  rw [decode_eq] at h
  split at h
  · cases h
  · exact selected_decodeValue h

end Sys2Proof.Machine
end

section
/-! SUPPORT. What the address stages answer, said once: where the cursor is after them, and that they do not read the
frame version. -/

namespace Sys2Proof.Machine

/-! ## The cursor -/

/-- A sequence of stages answers only where each of them does. -/
theorem except_bind_eq_ok {ε α β : Type} {x : Except ε α} {f : α → Except ε β} {b : β} (h : x >>= f = .ok b) :
    ∃ a, x = .ok a ∧ f a = .ok b := by
  cases x with
  | error e => cases h
  | ok a => exact ⟨a, rfl, h⟩

/-- Where the destination can be read, the cursor has moved over its fields. -/
theorem readDst_cursor {b : List Byte} {f : Fcf} {p : Nat} {a : Addr × Nat} (h : readDst b f p = .ok a) :
    a.2 = p + (if f.dstMode ≠ 0 then 2 + alen f.dstMode else 0) := by
  unfold readDst at h
  split at h
  case isTrue hnone =>
    cases h
    rw [if_neg (not_not.2 hnone), Nat.add_zero]
  case isFalse hpresent =>
    obtain ⟨-, -, h⟩ := except_bind_eq_ok h
    obtain ⟨-, -, h⟩ := except_bind_eq_ok h
    cases h
    rw [if_pos hpresent, Nat.add_assoc]

/-- Where the source can be read, the cursor has moved over its fields, without the PAN identifier under compression. -/
theorem readSrc_cursor {b : List Byte} {f : Fcf} {d : Addr} {p : Nat} {a : Addr × Nat} (h : readSrc b f d p = .ok a) :
    a.2 = p + (if f.srcMode ≠ 0 then (if srcPanElided f.pidc f.dstMode then 0 else 2) + alen f.srcMode else 0) := by
  unfold readSrc at h
  split at h
  case isTrue hnone =>
    cases h
    rw [if_neg (not_not.2 hnone), Nat.add_zero]
  case isFalse hpresent =>
    split at h
    case isTrue helided =>
      obtain ⟨-, -, h⟩ := except_bind_eq_ok h
      cases h
      rw [if_pos hpresent, if_pos helided, Nat.zero_add]
    case isFalse hheld =>
      obtain ⟨-, -, h⟩ := except_bind_eq_ok h
      obtain ⟨-, -, h⟩ := except_bind_eq_ok h
      cases h
      rw [if_pos hpresent, if_neg hheld, Nat.add_assoc]

/-- After the address stages the cursor stands at the header's end (30_encoding.md R77). -/
theorem decodeSrc_cursor {b : List Byte} {f : Fcf} {a : BitVec 8 × Addr × Addr × Nat} (h : decodeSrc b f = .ok a) :
    a.2.2.2 = hdrLen f := by
  obtain ⟨d, hd, h⟩ := except_bind_eq_ok h
  obtain ⟨r, hr, h⟩ := except_bind_eq_ok h
  obtain ⟨q, -, hd⟩ := except_bind_eq_ok hd
  obtain ⟨e, he, hd⟩ := except_bind_eq_ok hd
  cases hd
  cases h
  rw [hdrLen, readSrc_cursor hr, readDst_cursor he]

/-! ## The header's length -/

theorem srcPanElided_iff (pidc : Bool) (dstMode : BitVec 2) :
    srcPanElided pidc dstMode = true ↔ pidc = true ∧ dstMode ≠ 0 := by
  simp [srcPanElided]

theorem alen_le (m : BitVec 2) : alen m ≤ 8 := by
  revert m
  decide

/-- Two bytes of PAN identifier and eight of address for each of the two at most. -/
theorem hdrLen_bounds (f : Fcf) : 3 ≤ hdrLen f ∧ hdrLen f ≤ 23 := by
  have hdst := alen_le f.dstMode
  have hsrc := alen_le f.srcMode
  unfold hdrLen
  split_ifs <;> omega

/-- A frame control field of version 0 with these addressing modes and nothing else set. -/
def fcfOfModes (dst src : BitVec 2) : Fcf :=
  { ftype := 0, sec := false, pend := false, ackreq := false, pidc := false, resv := 0, dstMode := dst, fver := 0
    srcMode := src }

/-- Settles O19: the cursor after the addresses is the header's length; its ends are a frame without addresses and one
with two extended ones. -/
theorem headerLengthIsToldByTheFcf : Obligations.HeaderLengthIsToldByTheFcf := by
  refine ⟨fun b f a h => ?_, fun f _ => hdrLen_bounds f, ⟨fcfOfModes 0 0, rfl, rfl⟩, ⟨fcfOfModes 3 3, rfl, rfl⟩⟩
  rw [decodeSrc_cursor h, hdrLen]
  simp only [srcPanElided_iff]

/-! ## The frame version -/

/-- The checks let both supported versions through alike. -/
theorem fcfCheck_version {f : Fcf} (h : f.fver = 0) : fcfCheck { f with fver := 1 } = fcfCheck f := by
  simp [fcfCheck, h]

/-- No address stage reads the version. -/
theorem decodeSrc_version {f : Fcf} (h : f.fver = 0) (b : List Byte) :
    decodeSrc b { f with fver := 1 } = decodeSrc b f := by
  have hseq : decodeSeq b { f with fver := 1 } = decodeSeq b f := by
    rw [decodeSeq, decodeSeq, fcfCheck_version h]
  have hdst : decodeDst b { f with fver := 1 } = decodeDst b f := by
    rw [decodeDst, decodeDst, hseq]
    rfl
  rw [decodeSrc, decodeSrc, hdst]
  rfl

/-- Settles O25: the address stages and the content do not read the version, which is copied into the record. -/
theorem versionsZeroAndOneDecodeAlike : Obligations.VersionsZeroAndOneDecodeAlike := by
  intro b f hver
  rw [decodeRest, decodeRest, decodeSrc_version hver]
  cases decodeSrc b f with
  | error e => rfl
  | ok a =>
    show (readContent b f.ftype a.2.2.2 >>= _) = ((readContent b f.ftype a.2.2.2 >>= _).map _)
    cases readContent b f.ftype a.2.2.2 <;> rfl

/-! ## The version rows and the command identifiers -/

/-- Where the frame can be read and the checks pass, a row that ends at the frame control field puts its header bits into
the record. -/
theorem runHeader_of_ok {s : State} {b : List Byte} {f : Fcf} (hb : s.rxFrame = .ok b) (hf : fcfCheck f = .ok ()) :
    runHeader f s = .next (s.setDp { s.dp with frame := s.dp.frame.withFcf f, derr := none }) := by
  rw [runHeader, runStage_of_ok hb, hf]
  rfl

/-- Settles O24: each version row is such a row, and the version it puts into the record is its own. -/
theorem supportedVersionsAreAccepted : Obligations.SupportedVersionsAreAccepted := by
  intro s b f hb hf
  have hrun := runHeader_of_ok hb hf
  constructor <;> intro hver
  · exact hrun.trans (by rw [Frame.withFcf, hver]; rfl)
  · exact hrun.trans (by rw [Frame.withFcf, hver]; rfl)

/-- Settles O31: both rows put the content COMMAND of their identifier into the record. -/
theorem commandIdentifiersGiveTheContent : Obligations.CommandIdentifiersGiveTheContent :=
  fun _ => ⟨rfl, fun _ => rfl⟩

/-- Settles O3: the decoder evaluates on each of the twelve words. -/
theorem writtenWordsDecode : Obligations.WrittenWordsDecode :=
  ⟨rfl, rfl, rfl, rfl, rfl, rfl, rfl, rfl, rfl, rfl, rfl, rfl⟩

end Sys2Proof.Machine
end

section
/-! SUPPORT. How many moves the FSM, moving alone, has left until it waits: a number that every enabled move lowers
(44_scan_loop.md R180 to R203). -/

namespace Sys2Proof.Machine

/-! ## The moves left -/

/-- The moves the FSM has left at most. A tick leads from the race to a request that is not answered yet; a latched
receive leads round through S_QUIET and S_IDLE to a race that only a tick can end. -/
def State.movesLeft (s : State) : Nat :=
  if s.st = stRacing then (if s.rxDonePending then 6 else if s.tickPending then 2 else 0)
  else if s.st = stRx then 5
  else if s.st = stHopTxwait then (if s.txDonePending then 5 else 0)
  else if s.st = stHopPrep then 1
  else if s.st = stIdle then 3
  else 4

theorem State.movesLeft_le (s : State) : s.movesLeft ≤ 6 := by
  unfold State.movesLeft
  split_ifs <;> omega

section
variable {s : State}

theorem movesLeft_of_init (hst : s.st = stInit) : s.movesLeft = 4 := by
  rw [State.movesLeft, hst]
  rfl

theorem movesLeft_of_idle (hst : s.st = stIdle) : s.movesLeft = 3 := by
  rw [State.movesLeft, hst]
  rfl

theorem movesLeft_of_racing (hst : s.st = stRacing) :
    s.movesLeft = if s.rxDonePending then 6 else if s.tickPending then 2 else 0 :=
  if_pos hst

theorem movesLeft_of_rx (hst : s.st = stRx) : s.movesLeft = 5 := by
  rw [State.movesLeft, hst]
  rfl

theorem movesLeft_of_hopPrep (hst : s.st = stHopPrep) : s.movesLeft = 1 := by
  rw [State.movesLeft, hst]
  rfl

theorem movesLeft_of_hopTxwait (hst : s.st = stHopTxwait) : s.movesLeft = if s.txDonePending then 5 else 0 := by
  rw [State.movesLeft, hst]
  rfl

theorem movesLeft_of_quiet (hst : s.st = stQuiet) : s.movesLeft = 4 := by
  rw [State.movesLeft, hst]
  rfl

/-! ## Where the FSM is enabled -/

theorem fsmEnabled_of_racing (hst : s.st = stRacing) : s.fsmEnabled = (s.rxDonePending || s.tickPending) :=
  if_pos hst

theorem fsmEnabled_of_hopTxwait (hst : s.st = stHopTxwait) : s.fsmEnabled = s.txDonePending := by
  rw [State.fsmEnabled, hst]
  rfl

/-! ## An enabled move -/

/-- The FSM's move goes on, and there are fewer moves left after it. -/
def MoveLowers (s : State) : Prop := ∃ t, fsmMove s = .next t ∧ t.movesLeft < s.movesLeft

/-- The race armed from S_IDLE has no receive yet, so only a tick can end it. -/
theorem moveLowers_of_idle (h : ScanInv s) (hst : s.st = stIdle) (hmove : fsmMove s = execSIdle s) : MoveLowers s := by
  obtain ⟨-, hrx, -, -⟩ := h.latchesClear (.inr (.inl hst))
  have hnone : (((s.radio .rxStart).setRxArmed true).goto stRacing).rxDonePending ≠ true := by simp [hrx]
  refine ⟨_, hmove, ?_⟩
  rw [movesLeft_of_idle hst, movesLeft_of_racing rfl, if_neg hnone]
  split_ifs <;> decide

/-- An enabled race has a winner, whichever it is. -/
theorem moveLowers_of_racing (hst : s.st = stRacing) (hmove : fsmMove s = execSRacing s) (hen : s.fsmEnabled = true) :
    MoveLowers s := by
  rw [fsmEnabled_of_racing hst] at hen
  rw [execSRacing] at hmove
  cases hwin : raceWinner Config.arbTie s.rxDonePending s.tickPending with
  | none =>
    obtain ⟨hrx, htick⟩ := raceWinner_none.1 hwin
    simp [hrx, htick] at hen
  | some w =>
    rw [hwin] at hmove
    cases w with
    | rx =>
      obtain ⟨hrx, -⟩ := raceWinner_rx hwin
      refine ⟨s.rxWins, hmove, ?_⟩
      rw [movesLeft_of_racing hst, movesLeft_of_rx rfl, if_pos hrx]
      decide
    | hop =>
      obtain ⟨htick, -⟩ := raceWinner_hop hwin
      refine ⟨s.hopWins, hmove, ?_⟩
      rw [movesLeft_of_racing hst, movesLeft_of_hopPrep rfl, if_pos htick]
      split_ifs <;> decide

/-- A latched receive can be reported (20_memory.md R62 (1)). -/
theorem ScanInv.rxReport_ok (h : ScanInv s) (hst : s.st = stRx) : ∃ e, s.rxReport = .ok e := by
  unfold State.rxReport
  split
  case isTrue hok =>
    obtain ⟨b, hb⟩ := h.rxHeldFrame (h.rxHeld hst) hok
    exact ⟨_, by rw [hb]⟩
  case isFalse => split_ifs <;> exact ⟨_, rfl⟩

theorem moveLowers_of_rx (h : ScanInv s) (hst : s.st = stRx) (hmove : fsmMove s = execSRx s) : MoveLowers s := by
  obtain ⟨e, he⟩ := h.rxReport_ok hst
  rw [execSRx, he] at hmove
  refine ⟨_, hmove, ?_⟩
  rw [movesLeft_of_rx hst, movesLeft_of_quiet rfl]
  omega

/-- A request that was just handed to the radio is not answered yet. -/
theorem moveLowers_of_hopPrep (h : ScanInv s) (hst : s.st = stHopPrep) (hmove : fsmMove s = execSHopPrep s) :
    MoveLowers s := by
  obtain ⟨-, -, -, htx⟩ := h.latchesClear (.inr (.inr (.inl hst)))
  have hunanswered : s.hopPrepared.txDonePending = false := htx
  refine ⟨_, hmove.trans (execSHopPrep_eq s), ?_⟩
  rw [movesLeft_of_hopPrep hst, movesLeft_of_hopTxwait rfl, hunanswered]
  decide

theorem moveLowers_of_hopTxwait (hst : s.st = stHopTxwait) (hmove : fsmMove s = execSHopTxwait s)
    (hen : s.fsmEnabled = true) : MoveLowers s := by
  rw [fsmEnabled_of_hopTxwait hst] at hen
  refine ⟨_, hmove.trans (execSHopTxwait_of_answered hen), ?_⟩
  rw [movesLeft_of_hopTxwait hst, if_pos hen, movesLeft_of_quiet rfl]
  omega

/-- Under the invariants every enabled move goes on and lowers the moves left. -/
theorem moveLowers (h : ScanInv s) (hen : s.fsmEnabled = true) : MoveLowers s := by
  rcases fsmMove_cases s with ⟨hst, hmove⟩ | ⟨hst, hmove⟩ | ⟨hst, hmove⟩ | ⟨hst, hmove⟩ | ⟨hst, hmove⟩ | ⟨hst, hmove⟩ |
    ⟨hst, hmove⟩ | ⟨hst, hmove⟩
  · refine ⟨_, hmove, ?_⟩
    rw [movesLeft_of_init hst, movesLeft_of_idle rfl]
    omega
  · exact moveLowers_of_idle h hst hmove
  · exact moveLowers_of_racing hst hmove hen
  · exact moveLowers_of_rx h hst hmove
  · exact moveLowers_of_hopPrep h hst hmove
  · exact moveLowers_of_hopTxwait hst hmove hen
  · refine ⟨_, hmove, ?_⟩
    rw [movesLeft_of_quiet hst, movesLeft_of_idle rfl]
    omega
  · exact absurd hst h.legal

end

/-! ## The run of the FSM alone -/

/-- The FSM waits after at most as many steps as it has moves left. -/
theorem fsmSteps_waits (n : Nat) {s : State} (h : ScanInv s) (hn : s.movesLeft ≤ n) :
    ∃ k, k ≤ n ∧ ∃ t, fsmSteps k s = .next t ∧ t.fsmEnabled = false := by
  induction n generalizing s with
  | zero =>
    cases hen : s.fsmEnabled with
    | false => exact ⟨0, le_rfl, s, rfl, hen⟩
    | true =>
      obtain ⟨t, -, hlt⟩ := moveLowers h hen
      omega
  | succ n ih =>
    cases hen : s.fsmEnabled with
    | false => exact ⟨0, Nat.zero_le _, s, rfl, hen⟩
    | true =>
      obtain ⟨t, hmove, hlt⟩ := moveLowers h hen
      obtain ⟨k, hk, u, hsteps, hwaits⟩ := ih (h.fsmStep (fsmMove_next hmove)) (by omega)
      refine ⟨k + 1, by omega, u, ?_, hwaits⟩
      rw [fsmSteps, hmove]
      exact hsteps

/-- Settles O51: every enabled move lowers the moves left, which are six at most. -/
theorem runStopsWithinSixSteps : Obligations.RunStopsWithinSixSteps :=
  fun s h => fsmSteps_waits 6 h s.movesLeft_le

end Sys2Proof.Machine
end

section
/-! SUPPORT. The header's stages of DECODE in closed form: each answers, where the bytes reach the end of what it reads,
the fields at their offsets, and DE_TRUNCATED where they do not. -/

namespace Sys2Proof.Machine

/-! ## Bytes at an offset -/

/-- A field of at most 64 bits as a frame's bytes give it. -/
theorem setWidth_memRead {w : Nat} (b : List Byte) (p n : Nat) (h : w ≤ 64) :
    (memRead b p n).setWidth w = BitVec.ofNat w (leAt b p n) := BitVec.setWidth_ofNat_of_le h _

/-- A field of bytes at `p + q` is the field at `q` of the bytes from `p` on. -/
theorem leAt_add (b : List Byte) (p q n : Nat) : leAt b (p + q) n = leAt (b.drop p) q n := by
  rw [leAt, leAt, List.drop_drop]

/-- A field that bytes hold reads alike in every longer string that begins with them. -/
theorem leAt_of_isPrefix {c b : List Byte} {p n : Nat} (h : c <+: b) (hn : p + n ≤ c.length) :
    leAt c p n = leAt b p n := by
  obtain ⟨t, rfl⟩ := h
  rw [leAt, leAt, List.drop_append_of_le_length (by omega), List.take_append_of_le_length (by simp; omega)]

/-- The bytes of a value read as the value. -/
theorem leAt_leBytes_append {n v : Nat} (h : v < 256 ^ n) (t : List Byte) : leAt (leBytes n v ++ t) 0 n = v := by
  rw [leAt, List.drop_zero, List.take_left' (length_leBytes n v), leNat_leBytes_of_lt h]

/-- One byte's value, 0 past the end. -/
theorem leAt_one (b : List Byte) (p : Nat) : leAt b p 1 = (b.getD p 0).toNat := by
  rw [leAt, List.take_one, List.head?_drop, List.getD_eq_getElem?_getD]
  cases b[p]? <;> simp [leNat]

/-! ## Answers that need a number of bytes -/

/-- The answer, where the bytes are at least `n`, and DE_TRUNCATED where they are fewer (40_frame_codec.md R128). -/
def ifHeld {α : Type} (b : List Byte) (n : Nat) (a : α) : Except DecErr α :=
  if n ≤ b.length then .ok a else .error .truncated

theorem ifHeld_of_le {α : Type} {b : List Byte} {n : Nat} {a : α} (h : n ≤ b.length) : ifHeld b n a = .ok a := if_pos h

theorem ifHeld_of_lt {α : Type} {b : List Byte} {n : Nat} {a : α} (h : b.length < n) :
    ifHeld b n a = .error .truncated := if_neg (Nat.not_le.2 h)

theorem ifHeld_eq_ok_iff {α : Type} {b : List Byte} {n : Nat} {a r : α} :
    ifHeld b n a = .ok r ↔ n ≤ b.length ∧ r = a := by
  unfold ifHeld
  split <;> simp_all [eq_comm]

theorem need_eq_ifHeld (b : List Byte) (p k : Nat) : need b p k = ifHeld b (p + k) () := by
  by_cases h : p + k ≤ b.length
  · rw [need_of_le h, ifHeld_of_le h]
  · rw [need_of_gt (by omega), ifHeld_of_lt (by omega)]

/-- A stage that needs `n` bytes, then one that needs at least as many: only the second number counts. -/
theorem ifHeld_bind {α β : Type} {b : List Byte} {n m : Nat} {a : α} {g : α → Except DecErr β} {r : β}
    (hg : n ≤ b.length → g a = ifHeld b m r) (h : n ≤ m) : (ifHeld b n a >>= g) = ifHeld b m r := by
  by_cases hn : n ≤ b.length
  · rw [ifHeld_of_le hn, ← hg hn]
    rfl
  · rw [ifHeld_of_lt (by omega), ifHeld_of_lt (by omega)]
    rfl

/-- An answer that needs no byte more than are there. -/
theorem ok_eq_ifHeld {α : Type} {b : List Byte} {n : Nat} (a : α) (h : n ≤ b.length) :
    (Except.ok a : Except DecErr α) = ifHeld b n a := (ifHeld_of_le h).symm

/-! ## The header's stages -/

/-- The frame control field in a frame's first two bytes (30_encoding.md R71, R75). -/
def fcfAt (b : List Byte) : Fcf := Fcf.ofWord (BitVec.ofNat 16 (leAt b 0 2))

theorem readFcf_eq (b : List Byte) : readFcf b = ifHeld b 2 (fcfAt b) := by
  rw [readFcf, need_eq_ifHeld, setWidth_memRead b 0 2 (by omega)]
  exact ifHeld_bind (fun h => ok_eq_ifHeld _ h) le_rfl

theorem readSeq_eq (b : List Byte) : readSeq b = ifHeld b 3 (BitVec.ofNat 8 (leAt b 2 1)) := by
  rw [readSeq, need_eq_ifHeld, setWidth_memRead b 2 1 (by omega)]
  exact ifHeld_bind (fun h => ok_eq_ifHeld _ h) le_rfl

/-! ## The address slots, case by case -/

section
variable {b : List Byte} {f : Fcf}

theorem srcOffset_of_none (h : f.dstMode = 0) : srcOffset f = 3 := by rw [srcOffset, if_pos h]

theorem srcOffset_of_held (h : f.dstMode ≠ 0) : srcOffset f = 3 + 2 + alen f.dstMode := by
  rw [srcOffset, if_neg h, Nat.add_assoc]

theorem three_le_srcOffset (f : Fcf) : 3 ≤ srcOffset f := Nat.le_add_right _ _

theorem dstSlot_of_none (h : f.dstMode = 0) : dstSlot b f = Addr.none := if_pos h

theorem dstSlot_of_held (h : f.dstMode ≠ 0) : dstSlot b f =
    { mode := f.dstMode, pan := BitVec.ofNat 16 (leAt b 3 2), addr := BitVec.ofNat 64 (leAt b 5 (alen f.dstMode)) } :=
  if_neg h

/-- The header ends after the source's fields, which begin after the destination's (30_encoding.md R75, R77). -/
theorem hdrLen_eq (f : Fcf) : hdrLen f = srcOffset f +
    (if f.srcMode = 0 then 0 else (if srcPanElided f.pidc f.dstMode then 0 else 2) + alen f.srcMode) := by
  simp only [hdrLen, srcOffset, ne_eq, ite_not]

theorem hdrLen_of_none (h : f.srcMode = 0) : hdrLen f = srcOffset f := by rw [hdrLen_eq, if_pos h, Nat.add_zero]

theorem hdrLen_of_elided (h : f.srcMode ≠ 0) (hpan : srcPanElided f.pidc f.dstMode = true) :
    hdrLen f = srcOffset f + alen f.srcMode := by
  rw [hdrLen_eq, if_neg h, if_pos hpan, Nat.zero_add]

theorem hdrLen_of_held (h : f.srcMode ≠ 0) (hpan : ¬ srcPanElided f.pidc f.dstMode = true) :
    hdrLen f = srcOffset f + 2 + alen f.srcMode := by
  rw [hdrLen_eq, if_neg h, if_neg hpan, Nat.add_assoc]

theorem srcOffset_le_hdrLen (f : Fcf) : srcOffset f ≤ hdrLen f := by
  rw [hdrLen_eq]
  exact Nat.le_add_right _ _

theorem srcSlot_of_none (h : f.srcMode = 0) : srcSlot b f = Addr.none := if_pos h

/-- Under compression with a destination the source's PAN identifier is the destination's (30_encoding.md R76). -/
theorem srcSlot_of_elided (h : f.srcMode ≠ 0) (hpan : srcPanElided f.pidc f.dstMode = true) : srcSlot b f =
    { mode := f.srcMode, pan := (dstSlot b f).pan
      addr := BitVec.ofNat 64 (leAt b (srcOffset f) (alen f.srcMode)) } := by
  have hcomp := (srcPanElided_iff _ _).1 hpan
  rw [dstSlot_of_held hcomp.2]
  exact (if_neg h).trans (if_pos hcomp)

theorem srcSlot_of_held (h : f.srcMode ≠ 0) (hpan : ¬ srcPanElided f.pidc f.dstMode = true) : srcSlot b f =
    { mode := f.srcMode, pan := BitVec.ofNat 16 (leAt b (srcOffset f) 2)
      addr := BitVec.ofNat 64 (leAt b (srcOffset f + 2) (alen f.srcMode)) } :=
  (if_neg h).trans (if_neg (mt (srcPanElided_iff _ _).2 hpan))

/-! ## The address stages -/

theorem readDst_eq (h : 3 ≤ b.length) : readDst b f 3 = ifHeld b (srcOffset f) (dstSlot b f, srcOffset f) := by
  unfold readDst
  split
  case isTrue hnone =>
    rw [srcOffset_of_none hnone, dstSlot_of_none hnone]
    exact ok_eq_ifHeld _ h
  case isFalse hheld =>
    rw [srcOffset_of_held hheld, dstSlot_of_held hheld, need_eq_ifHeld, need_eq_ifHeld,
      setWidth_memRead b 3 2 (by omega)]
    exact ifHeld_bind (fun _ => ifHeld_bind (fun hn => ok_eq_ifHeld _ hn) le_rfl) (Nat.le_add_right _ _)

theorem readSrc_eq (h : srcOffset f ≤ b.length) :
    readSrc b f (dstSlot b f) (srcOffset f) = ifHeld b (hdrLen f) (srcSlot b f, hdrLen f) := by
  unfold readSrc
  split
  case isTrue hnone =>
    rw [hdrLen_of_none hnone, srcSlot_of_none hnone]
    exact ok_eq_ifHeld _ h
  case isFalse hpresent =>
    split
    case isTrue helided =>
      rw [hdrLen_of_elided hpresent helided, srcSlot_of_elided hpresent helided, need_eq_ifHeld]
      exact ifHeld_bind (fun hn => ok_eq_ifHeld _ hn) le_rfl
    case isFalse hheld =>
      rw [hdrLen_of_held hpresent hheld, srcSlot_of_held hpresent hheld, need_eq_ifHeld, need_eq_ifHeld,
        setWidth_memRead b _ 2 (by omega)]
      exact ifHeld_bind (fun _ => ifHeld_bind (fun hn => ok_eq_ifHeld _ hn) le_rfl) (Nat.le_add_right _ _)

theorem decodeSeq_eq (hf : fcfCheck f = .ok ()) : decodeSeq b f = ifHeld b 3 (BitVec.ofNat 8 (leAt b 2 1)) := by
  rw [decodeSeq, hf, ← readSeq_eq]
  rfl

theorem decodeDst_eq (hf : fcfCheck f = .ok ()) : decodeDst b f =
    ifHeld b (srcOffset f) (BitVec.ofNat 8 (leAt b 2 1), dstSlot b f, srcOffset f) := by
  rw [decodeDst, decodeSeq_eq hf]
  refine ifHeld_bind (fun h => ?_) (three_le_srcOffset f)
  rw [readDst_eq h]
  exact ifHeld_bind (fun hn => ok_eq_ifHeld _ hn) le_rfl

theorem decodeSrc_eq (hf : fcfCheck f = .ok ()) : decodeSrc b f =
    ifHeld b (hdrLen f) (BitVec.ofNat 8 (leAt b 2 1), dstSlot b f, srcSlot b f, hdrLen f) := by
  rw [decodeSrc, decodeDst_eq hf]
  refine ifHeld_bind (fun h => ?_) (srcOffset_le_hdrLen f)
  rw [readSrc_eq h]
  exact ifHeld_bind (fun hn => ok_eq_ifHeld _ hn) le_rfl

end

end Sys2Proof.Machine
end

section
/-! SUPPORT. The content stage and the whole of DECODE in closed form: where a frame ends, which record it gives, and
that it gives one exactly if the checks pass and the bytes reach that end. -/

namespace Sys2Proof.Machine

/-! ## The content stage -/

/-- The number of GTS descriptors a beacon whose content begins at `p` announces (30_encoding.md R80). -/
def gtsCount (b : List Byte) (p : Nat) : Nat := leAt b (p + 2) 1 % 8

/-- Where its pending address specification stands, after the descriptors (30_encoding.md R78, R80). -/
def pendingOffset (b : List Byte) (p : Nat) : Nat :=
  p + 3 + (if gtsCount b p = 0 then 0 else 1 + 3 * gtsCount b p)

/-- The number of pending short addresses it announces (30_encoding.md R81). -/
def pendingShort (b : List Byte) (p : Nat) : Nat := leAt b (pendingOffset b p) 1 % 8

/-- The number of pending extended addresses it announces (30_encoding.md R81). -/
def pendingExt (b : List Byte) (p : Nat) : Nat := leAt b (pendingOffset b p) 1 / 16 % 8

/-- Where a beacon's content ends, after the pending addresses (40_frame_codec.md R123). -/
def beaconEnd (b : List Byte) (p : Nat) : Nat :=
  pendingOffset b p + 1 + 2 * pendingShort b p + 8 * pendingExt b p

/-- A beacon's content (40_frame_codec.md R123). -/
def beaconAt (b : List Byte) (p : Nat) : Content :=
  .beacon (BitVec.ofNat 16 (leAt b p 2)) (BitVec.ofNat 3 (gtsCount b p)) (BitVec.ofNat 3 (pendingShort b p))
    (BitVec.ofNat 3 (pendingExt b p))

/-- A count of three bits in a byte read from a frame. -/
theorem extractLsb_memRead_one (b : List Byte) (p lo : Nat) :
    (memRead b p 1).extractLsb' lo 3 = BitVec.ofNat 3 (leAt b p 1 / 2 ^ lo % 8) := by
  have hval : (memRead b p 1).toNat = leAt b p 1 := toNat_memRead b p (by omega)
  refine extractLsb_of_toNat ?_
  rw [hval, BitVec.toNat_ofNat]
  exact (Nat.mod_mod _ 8).symm

theorem toNat_ofNat_mod_eight (n : Nat) : (BitVec.ofNat 3 (n % 8)).toNat = n % 8 := by
  rw [BitVec.toNat_ofNat, Nat.mod_mod]

theorem ok_bind {ε α β : Type} (a : α) (g : α → Except ε β) : ((Except.ok a : Except ε α) >>= g) = g a := rfl

/-- A beacon's content is read where the bytes reach its end: every earlier field ends before it. -/
theorem readBeacon_eq (b : List Byte) (p : Nat) :
    readBeacon b p = ifHeld b (beaconEnd b p) (beaconAt b p, beaconEnd b p) := by
  have hgts : (memRead b (p + 2) 1).extractLsb' 0 3 = BitVec.ofNat 3 (gtsCount b p) := by
    rw [extractLsb_memRead_one, pow_zero, Nat.div_one, gtsCount]
  have hcount : (BitVec.ofNat 3 (gtsCount b p)).toNat = gtsCount b p := toNat_ofNat_mod_eight _
  have hpend : pendingOffset b p + 1 + (2 * pendingShort b p + 8 * pendingExt b p) = beaconEnd b p := by
    rw [beaconEnd, ← Nat.add_assoc]
  unfold readBeacon
  simp only [need_eq_ifHeld, hgts, hcount, extractLsb_memRead_one, setWidth_memRead b p 2 (show 16 ≤ 64 by omega),
    pow_zero, Nat.div_one, Nat.reducePow, toNat_ofNat_mod_eight, ok_bind]
  by_cases hnone : gtsCount b p = 0
  · have hoff : pendingOffset b p = p + 3 := by rw [pendingOffset, if_pos hnone]
    rw [if_neg (by simp [hnone]), ← hoff]
    refine ifHeld_bind (fun _ => ifHeld_bind (fun _ => ifHeld_bind (fun _ => ?_) ?_) ?_) ?_
    · exact hpend ▸ ifHeld_bind (fun h => ok_eq_ifHeld _ h) le_rfl
    all_goals omega
  · have hoff : pendingOffset b p = p + 3 + 1 + 3 * gtsCount b p := by rw [pendingOffset, if_neg hnone]; omega
    rw [if_pos (fun h => hnone (hcount ▸ congrArg BitVec.toNat h)), ← hoff]
    refine ifHeld_bind (fun _ => ifHeld_bind (fun _ => ifHeld_bind (fun _ => ifHeld_bind (fun _ =>
      ifHeld_bind (fun _ => ?_) ?_) ?_) ?_) ?_) ?_
    · exact hpend ▸ ifHeld_bind (fun h => ok_eq_ifHeld _ h) le_rfl
    all_goals omega

/-- The content of a frame whose content begins at `p` (40_frame_codec.md R123 to R126). -/
def contentAt (b : List Byte) (ftype : BitVec 3) (p : Nat) : Content :=
  match ftype.toNat with
  | 0 => beaconAt b p
  | 1 => .data
  | 2 => .other
  | _ => .command (BitVec.ofNat 8 (leAt b p 1))

/-- Where that content ends (40_frame_codec.md R123 to R126). -/
def contentEnd (b : List Byte) (ftype : BitVec 3) (p : Nat) : Nat :=
  match ftype.toNat with
  | 0 => beaconEnd b p
  | 1 => p
  | 2 => p
  | _ => p + 1

theorem readContent_eq {b : List Byte} {p : Nat} (ftype : BitVec 3) (h : p ≤ b.length) :
    readContent b ftype p = ifHeld b (contentEnd b ftype p) (contentAt b ftype p, contentEnd b ftype p) := by
  unfold readContent contentEnd contentAt
  generalize ftype.toNat = k
  match k with
  | 0 => exact readBeacon_eq b p
  | 1 => exact ok_eq_ifHeld _ h
  | 2 => exact ok_eq_ifHeld _ h
  | _ + 3 =>
    show readCommand b p = ifHeld b (p + 1) (.command (BitVec.ofNat 8 (leAt b p 1)), p + 1)
    rw [readCommand, need_eq_ifHeld, setWidth_memRead b p 1 (by omega)]
    exact ifHeld_bind (fun hn => ok_eq_ifHeld _ hn) le_rfl

theorem le_contentEnd (b : List Byte) (ftype : BitVec 3) (p : Nat) : p ≤ contentEnd b ftype p := by
  unfold contentEnd
  split
  · rw [beaconEnd, pendingOffset]
    omega
  all_goals omega

/-! ## The whole record -/

/-- Where the last required field of a frame ends (40_frame_codec.md R128). -/
def frameEnd (b : List Byte) (f : Fcf) : Nat := contentEnd b f.ftype (hdrLen f)

/-- The record the bytes give under a frame control field: header, content, and the rest as payload (R129). -/
def recordAt (b : List Byte) (f : Fcf) : Frame :=
  recordOf b f (contentAt b f.ftype (hdrLen f)) (b.drop (frameEnd b f))

theorem hdrLen_le_frameEnd (b : List Byte) (f : Fcf) : hdrLen f ≤ frameEnd b f := le_contentEnd _ _ _

theorem three_le_frameEnd (b : List Byte) (f : Fcf) : 3 ≤ frameEnd b f :=
  (hdrLen_bounds f).1.trans (hdrLen_le_frameEnd b f)

/-- Where the checks pass, a frame gives its record exactly if it reaches its last required field (R128). -/
theorem decodeRest_eq {b : List Byte} {f : Fcf} (hf : fcfCheck f = .ok ()) :
    decodeRest b f = ifHeld b (frameEnd b f) (recordAt b f) := by
  rw [decodeRest, decodeSrc_eq hf]
  refine ifHeld_bind (fun h => ?_) (hdrLen_le_frameEnd b f)
  rw [readContent_eq _ h]
  exact ifHeld_bind (fun hn => ok_eq_ifHeld _ hn) le_rfl

/-! ## A failed check -/

section
variable {b : List Byte} {f : Fcf} {e : DecErr}

theorem decodeSeq_of_check_error (hf : fcfCheck f = .error e) : decodeSeq b f = .error e := by
  rw [decodeSeq, hf]
  rfl

theorem decodeDst_of_check_error (hf : fcfCheck f = .error e) : decodeDst b f = .error e := by
  rw [decodeDst, decodeSeq_of_check_error hf]
  rfl

theorem decodeSrc_of_check_error (hf : fcfCheck f = .error e) : decodeSrc b f = .error e := by
  rw [decodeSrc, decodeDst_of_check_error hf]
  rfl

theorem decodeRest_of_check_error (hf : fcfCheck f = .error e) : decodeRest b f = .error e := by
  rw [decodeRest, decodeSrc_of_check_error hf]
  rfl

end

/-- What a decode that answers a record has found. -/
theorem decodeRest_eq_ok_iff {b : List Byte} {f : Fcf} {r : Frame} : decodeRest b f = .ok r ↔
    fcfCheck f = .ok () ∧ frameEnd b f ≤ b.length ∧ r = recordAt b f := by
  cases hf : fcfCheck f with
  | error e => simp [decodeRest_of_check_error hf]
  | ok u => simp [decodeRest_eq hf, ifHeld_eq_ok_iff]

/-! ## DECODE -/

theorem decodeFrame_of_readFcf {b : List Byte} {f : Fcf} (h : readFcf b = .ok f) : decodeFrame b = decodeRest b f := by
  rw [decodeFrame, h]
  rfl

theorem readFcf_of_le {b : List Byte} (h : 2 ≤ b.length) : readFcf b = .ok (fcfAt b) := by
  rw [readFcf_eq, ifHeld_of_le h]

theorem decodeFrame_of_lt {b : List Byte} (h : b.length < 2) : decodeFrame b = .error .truncated := by
  rw [decodeFrame, readFcf_eq, ifHeld_of_lt h]
  rfl

theorem decodeFrame_eq_ok_iff {b : List Byte} {r : Frame} : decodeFrame b = .ok r ↔
    fcfCheck (fcfAt b) = .ok () ∧ frameEnd b (fcfAt b) ≤ b.length ∧ r = recordAt b (fcfAt b) := by
  by_cases h : 2 ≤ b.length
  · rw [decodeFrame_of_readFcf (readFcf_of_le h), decodeRest_eq_ok_iff]
  · have := three_le_frameEnd b (fcfAt b)
    rw [decodeFrame_of_lt (by omega)]
    exact iff_of_false nofun (fun ⟨_, hlen, _⟩ => by omega)

end Sys2Proof.Machine
end

section
/-! SUPPORT. DECODE and the decode classes as operations: what a stage's answer does to the state, the rows of the four
FCF selectors, and the order of the checks. -/

namespace Sys2Proof.Machine

/-! ## A stage's answer in the datapath -/

section
variable {α : Type} {s : State} {b : List Byte} {stage : List Byte → Except DecErr α} {upd : Frame → α → Frame}

theorem runStage_of_stage_ok {a : α} (hb : s.rxFrame = .ok b) (h : stage b = .ok a) :
    runStage s stage upd = .next { s with dp := { s.dp with derr := none, frame := upd s.dp.frame a } } := by
  rw [runStage_of_ok hb, h]
  rfl

theorem runStage_of_stage_error {e : DecErr} (hb : s.rxFrame = .ok b) (h : stage b = .error e) :
    runStage s stage upd = .next (failedWith s e) := by
  rw [runStage_of_ok hb, h]
  rfl

/-- A stage that needs `n` bytes updates the record where they are there, and answers DE_TRUNCATED where not. -/
theorem runStage_of_ifHeld {n : Nat} {a : α} (hb : s.rxFrame = .ok b) (h : stage b = ifHeld b n a) :
    (n ≤ b.length → runStage s stage upd =
      .next { s with dp := { s.dp with derr := none, frame := upd s.dp.frame a } }) ∧
    (b.length < n → runStage s stage upd = .next (failedWith s .truncated)) :=
  ⟨fun hle => runStage_of_stage_ok hb (h.trans (ifHeld_of_le hle)),
    fun hlt => runStage_of_stage_error hb (h.trans (ifHeld_of_lt hlt))⟩

end

/-! ## DECODE by itself -/

theorem execDecode_of_ok {s : State} {b : List Byte} (h : s.rxFrame = .ok b) :
    execDecode s = .next (s.setDp (s.dp.decoded (decodeFrame b))) := by
  simp only [execDecode, h]

/-- Settles O17: the datapath takes the record or the error, whichever the decode of the bytes is. -/
theorem decodeDeliversRecordOrError : Obligations.DecodeDeliversRecordOrError := by
  intro s b hb
  have hexec : exec .decode s = .next (s.setDp (s.dp.decoded (decodeFrame b))) := execDecode_of_ok hb
  refine ⟨fun f hf => ?_, fun e he => ?_, _, hexec⟩
  · rw [hexec, hf]
    rfl
  · rw [hexec, he]
    rfl

/-! ## The four runs of a row -/

/-- A row of an FCF selector runs DECODE's stages up to the content, the destination or the source, or the checks
alone. -/
theorem exec_of_mem_fcfRows {i : Instr} {f : Fcf} (h : i ∈ fcfRows f) (s : State) :
    exec i s = runContent f s ∨ exec i s = runDst f s ∨ exec i s = runSrc f s ∨ exec i s = runHeader f s := by
  cases i with
  | frameBeacon g | frameData g | frameAck g | frameCommand g =>
    obtain rfl : g = f := by simpa [fcfRows] using h
    exact .inl rfl
  | dstNone g | dstShort g | dstExt g =>
    obtain rfl : g = f := by simpa [fcfRows] using h
    exact .inr (.inl rfl)
  | srcNone g | srcShort g | srcExt g =>
    obtain rfl : g = f := by simpa [fcfRows] using h
    exact .inr (.inr (.inl rfl))
  | frameTypeReserved g | dstModeReserved g | srcModeReserved g | version2003 g | version2006 g | versionReserved g =>
    obtain rfl : g = f := by simpa [fcfRows] using h
    exact .inr (.inr (.inr rfl))
  | _ => simp [fcfRows] at h

section
variable {s : State} {b : List Byte} {f : Fcf}

theorem runDst_of_check_ok (hb : s.rxFrame = .ok b) (hf : fcfCheck f = .ok ()) :
    (srcOffset f ≤ b.length → runDst f s = .next { s with dp := { s.dp with
      derr := none
      frame := { s.dp.frame.withFcf f with seq := BitVec.ofNat 8 (leAt b 2 1), dst := dstSlot b f } } }) ∧
    (b.length < srcOffset f → runDst f s = .next (failedWith s .truncated)) :=
  runStage_of_ifHeld (stage := fun b => decodeDst b f) hb (decodeDst_eq hf)

theorem runSrc_of_check_ok (hb : s.rxFrame = .ok b) (hf : fcfCheck f = .ok ()) :
    (hdrLen f ≤ b.length → runSrc f s = .next { s with dp := { s.dp with
      derr := none
      frame := { s.dp.frame.withFcf f with
        seq := BitVec.ofNat 8 (leAt b 2 1), dst := dstSlot b f, src := srcSlot b f } } }) ∧
    (b.length < hdrLen f → runSrc f s = .next (failedWith s .truncated)) :=
  runStage_of_ifHeld (stage := fun b => decodeSrc b f) hb (decodeSrc_eq hf)

theorem runContent_of_check_ok (hb : s.rxFrame = .ok b) (hf : fcfCheck f = .ok ()) :
    (frameEnd b f ≤ b.length →
      runContent f s = .next { s with dp := { s.dp with derr := none, frame := recordAt b f } }) ∧
    (b.length < frameEnd b f → runContent f s = .next (failedWith s .truncated)) :=
  runStage_of_ifHeld (stage := fun b => decodeRest b f) hb (decodeRest_eq hf)

/-- Every row runs the checks first. -/
theorem exec_of_check_error {e : DecErr} {i : Instr} (hb : s.rxFrame = .ok b) (hi : i ∈ fcfRows f)
    (hf : fcfCheck f = .error e) : exec i s = .next (failedWith s e) := by
  obtain h | h | h | h := exec_of_mem_fcfRows hi s
  · exact h.trans (runStage_of_stage_error hb (decodeRest_of_check_error hf))
  · exact h.trans (runStage_of_stage_error hb (decodeDst_of_check_error hf))
  · exact h.trans (runStage_of_stage_error hb (decodeSrc_of_check_error hf))
  · exact h.trans (runStage_of_stage_error hb hf)

end

/-! ## The five checks, each behind those before it (40_frame_codec.md R121) -/

section
variable {f : Fcf}

theorem fcfCheck_of_reserved_type (h : 4 ≤ f.ftype.toNat) : fcfCheck f = .error .frameType := if_pos h

theorem fcfCheck_of_security (htype : ¬ 4 ≤ f.ftype.toNat) (h : f.sec = true) : fcfCheck f = .error .security :=
  (if_neg htype).trans (if_pos h)

theorem fcfCheck_of_reserved_mode (htype : ¬ 4 ≤ f.ftype.toNat) (hsec : ¬ f.sec = true)
    (h : f.dstMode = 1 ∨ f.srcMode = 1) : fcfCheck f = .error .addrMode :=
  (if_neg htype).trans ((if_neg hsec).trans (if_pos h))

theorem fcfCheck_of_reserved_version (htype : ¬ 4 ≤ f.ftype.toNat) (hsec : ¬ f.sec = true)
    (hmode : ¬ (f.dstMode = 1 ∨ f.srcMode = 1)) (h : 2 ≤ f.fver.toNat) : fcfCheck f = .error .version :=
  (if_neg htype).trans ((if_neg hsec).trans ((if_neg hmode).trans (if_pos h)))

/-- Past the first four checks the fifth decides. -/
theorem fcfCheck_of_four_passed (htype : ¬ 4 ≤ f.ftype.toNat) (hsec : ¬ f.sec = true)
    (hmode : ¬ (f.dstMode = 1 ∨ f.srcMode = 1)) (hver : ¬ 2 ≤ f.fver.toNat) :
    fcfCheck f = if f.pidc = true ∧ f.srcMode ≠ 0 ∧ f.dstMode = 0 then .error .panidComp else .ok () :=
  (if_neg htype).trans ((if_neg hsec).trans ((if_neg hmode).trans (if_neg hver)))

end

/-- Settles O23: every row runs the checks first, and a reserved row's own check is the first that fails. -/
theorem failedFcfChecksAreAnswered : Obligations.FailedFcfChecksAreAnswered := by
  intro s b f hb
  have hrow {i : Instr} {e : DecErr} (hi : i ∈ fcfRows f) (hf : fcfCheck f = .error e) :
      exec i s = .next (failedWith s e) := exec_of_check_error hb hi hf
  refine ⟨fun e i hi hf => hrow hi hf, ?ftype, ?dstMode, ?srcMode, ?version⟩
  case ftype =>
    intro h
    exact hrow (by simp [fcfRows]) (fcfCheck_of_reserved_type h)
  case dstMode =>
    intro htype hsec h
    exact hrow (by simp [fcfRows]) (fcfCheck_of_reserved_mode (Nat.not_le.2 htype) (Bool.eq_false_iff.1 hsec) (.inl h))
  case srcMode =>
    intro htype hsec h
    exact hrow (by simp [fcfRows]) (fcfCheck_of_reserved_mode (Nat.not_le.2 htype) (Bool.eq_false_iff.1 hsec) (.inr h))
  case version =>
    intro htype hsec hdst hsrc h
    exact hrow (by simp [fcfRows])
      (fcfCheck_of_reserved_version (Nat.not_le.2 htype) (Bool.eq_false_iff.1 hsec) (not_or.2 ⟨hdst, hsrc⟩) h)

/-! ## The rows on a frame control field that passes -/

/-- Settles O26: a destination row runs the stages up to the destination, which need the bytes before the source. -/
theorem destinationRowsReadTheAddress : Obligations.DestinationRowsReadTheAddress := by
  intro s b f i hb hf hi
  have hrun : exec i s = runDst f s := by
    obtain ⟨rfl, -⟩ | ⟨rfl, -⟩ | ⟨rfl, -⟩ := hi <;> rfl
  rw [hrun]
  exact runDst_of_check_ok hb hf

/-- Settles O27: a source row runs the stages up to the source, which need the header's bytes. -/
theorem sourceRowsReadTheAddress : Obligations.SourceRowsReadTheAddress := by
  intro s b f i hb hf hi
  have hrun : exec i s = runSrc f s := by
    obtain ⟨rfl, -⟩ | ⟨rfl, -⟩ | ⟨rfl, -⟩ := hi <;> rfl
  rw [hrun]
  exact runSrc_of_check_ok hb hf

/-- Settles O28: a frame type row runs all stages, and of these three only the command has a content field, the byte
after the header. -/
theorem dataAckAndCommandRowsReadTheirContent : Obligations.DataAckAndCommandRowsReadTheirContent := by
  intro s b f i c n hb hf hi
  have hrow : exec i s = runContent f s ∧ contentAt b f.ftype (hdrLen f) = c ∧ frameEnd b f = n := by
    rw [frameEnd]
    obtain ⟨rfl, htype, rfl, rfl⟩ | ⟨rfl, htype, rfl, rfl⟩ | ⟨rfl, htype, rfl, rfl⟩ := hi <;> rw [htype]
    · exact ⟨rfl, rfl, rfl⟩
    · exact ⟨rfl, rfl, rfl⟩
    · have hbyte : BitVec.ofNat 8 (leAt b (hdrLen f) 1) = b.getD (hdrLen f) 0 := by
        rw [leAt_one, BitVec.ofNat_toNat, BitVec.setWidth_eq]
      exact ⟨rfl, congrArg Content.command hbyte, rfl⟩
  obtain ⟨hrun, rfl, rfl⟩ := hrow
  rw [hrun]
  exact runContent_of_check_ok hb hf

/-- Settles O29: a frame type row runs all stages, and the statement's offsets and counts are those of a beacon's
content after the header. -/
theorem beaconRowReadsItsContent : Obligations.BeaconRowReadsItsContent := by
  intro s b f gc ns ne p hb hf htype hgc hp hns hne
  obtain rfl : gc = gtsCount b (hdrLen f) := hgc
  obtain rfl : p = pendingOffset b (hdrLen f) := hp
  obtain rfl : ns = pendingShort b (hdrLen f) := hns
  obtain rfl : ne = pendingExt b (hdrLen f) := hne
  have hrun := runContent_of_check_ok hb hf
  rw [recordAt, frameEnd, htype] at hrun
  exact hrun

/-- Settles O30: DECODE runs the rows' stages under the frame control field of the bytes, so that where it gives a
record the stages before the content have answered its parts. -/
theorem decodeClassesAgreeWithDecode : Obligations.DecodeClassesAgreeWithDecode := by
  intro s b f hb hread
  have hframe : decodeFrame b = decodeRest b f := decodeFrame_of_readFcf hread
  have hrow : runContent f s = execDecode s := by
    rw [execDecode_of_ok hb, hframe, runContent, runStage_of_ok hb]
    cases decodeRest b f <;> rfl
  refine ⟨fun _ => hrow, fun _ => hrow, fun _ => hrow, fun _ => hrow, ?srcRows, ?dstRows⟩
  case srcRows =>
    intro r i hr hi
    obtain ⟨hf, hlen, rfl⟩ := decodeRest_eq_ok_iff.1 (hframe ▸ hr)
    have hrun : exec i s = runSrc f s := by obtain rfl | rfl | rfl := hi <;> rfl
    rw [hrun, (runSrc_of_check_ok hb hf).1 ((hdrLen_le_frameEnd b f).trans hlen)]
    exact ⟨_, rfl, rfl, rfl, rfl⟩
  case dstRows =>
    intro r i hr hi
    obtain ⟨hf, hlen, rfl⟩ := decodeRest_eq_ok_iff.1 (hframe ▸ hr)
    have hrun : exec i s = runDst f s := by obtain rfl | rfl | rfl := hi <;> rfl
    rw [hrun, (runDst_of_check_ok hb hf).1 ((srcOffset_le_hdrLen f).trans ((hdrLen_le_frameEnd b f).trans hlen))]
    exact ⟨_, rfl, rfl, rfl, rfl⟩

/-! ## The frame control field's bits -/

/-- The frame control field is the little-endian value of a frame's first two bytes (20_memory.md R51). -/
theorem fcfAt_cons_cons (b0 b1 : Byte) (rest : List Byte) : fcfAt (b0 :: b1 :: rest) = Fcf.ofWord (b1 ++ b0) := by
  have h0 := b0.isLt
  have h1 := b1.isLt
  have hval : leAt (b0 :: b1 :: rest) 0 2 = b0.toNat + 256 * b1.toNat := by simp [leAt, leNat]
  have hword : BitVec.ofNat 16 (b0.toNat + 256 * b1.toNat) = b1 ++ b0 := by
    apply BitVec.eq_of_toNat_eq
    rw [BitVec.toNat_ofNat, BitVec.toNat_append, ← Nat.shiftLeft_add_eq_or_of_lt h0, Nat.shiftLeft_eq]
    omega
  rw [fcfAt, hval, hword]

theorem dstSlot_mode (b : List Byte) (f : Fcf) : (dstSlot b f).mode = f.dstMode := by
  unfold dstSlot
  split
  case isTrue hnone => exact hnone.symm
  case isFalse => rfl

theorem srcSlot_mode (b : List Byte) (f : Fcf) : (srcSlot b f).mode = f.srcMode := by
  unfold srcSlot
  split
  case isTrue hnone => exact hnone.symm
  case isFalse => split <;> rfl

/-- Settles O18: the checks come before every stage that reads more bytes, and the record takes its header bits from the
frame control field. -/
theorem decodeChecksTheFcfInOrder : Obligations.DecodeChecksTheFcfInOrder := by
  intro b0 b1 rest w hw
  have hread : readFcf (b0 :: b1 :: rest) = .ok (Fcf.ofWord w) := by
    rw [readFcf_of_le (by simp), fcfAt_cons_cons, hw]
  refine ⟨⟨Fcf.ofWord w, hread, Fcf.toWord_ofWord w, rfl, rfl, rfl, rfl, rfl, rfl, rfl, rfl, rfl⟩, ?_⟩
  rw [decodeFrame_of_readFcf hread]
  dsimp only
  split_ifs with htype hsec hmode hver hcomp
  · exact decodeRest_of_check_error (fcfCheck_of_reserved_type htype)
  · exact decodeRest_of_check_error (fcfCheck_of_security htype hsec)
  · exact decodeRest_of_check_error (fcfCheck_of_reserved_mode htype hsec hmode)
  · exact decodeRest_of_check_error (fcfCheck_of_reserved_version htype hsec hmode hver)
  · exact decodeRest_of_check_error ((fcfCheck_of_four_passed htype hsec hmode hver).trans (if_pos hcomp))
  · rw [decodeRest_eq ((fcfCheck_of_four_passed htype hsec hmode hver).trans (if_neg hcomp))]
    by_cases hlen : frameEnd (b0 :: b1 :: rest) (Fcf.ofWord w) ≤ (b0 :: b1 :: rest).length
    · exact .inr ⟨_, ifHeld_of_le hlen, rfl, rfl, rfl, rfl, rfl, rfl, dstSlot_mode _ _, srcSlot_mode _ _⟩
    · exact .inl (ifHeld_of_lt (Nat.lt_of_not_le hlen))

end Sys2Proof.Machine
end

section
/-! SUPPORT. Frames of which one begins with the other: what is read below the shorter one's end reads alike, and so a
frame's end is the same in both, or past the shorter one in both. -/

namespace Sys2Proof.Machine

section
variable {c b : List Byte} {f : Fcf}

/-! ## The header -/

theorem fcfAt_of_isPrefix (h : c <+: b) (hn : 2 ≤ c.length) : fcfAt c = fcfAt b := by
  rw [fcfAt, fcfAt, leAt_of_isPrefix h hn]

theorem dstSlot_of_isPrefix (h : c <+: b) (hn : srcOffset f ≤ c.length) : dstSlot c f = dstSlot b f := by
  by_cases hmode : f.dstMode = 0
  · rw [dstSlot_of_none hmode, dstSlot_of_none hmode]
  · rw [srcOffset_of_held hmode] at hn
    rw [dstSlot_of_held hmode, dstSlot_of_held hmode, leAt_of_isPrefix h (by omega), leAt_of_isPrefix h (by omega)]

theorem srcSlot_of_isPrefix (h : c <+: b) (hn : hdrLen f ≤ c.length) : srcSlot c f = srcSlot b f := by
  by_cases hmode : f.srcMode = 0
  · rw [srcSlot_of_none hmode, srcSlot_of_none hmode]
  · by_cases hpan : srcPanElided f.pidc f.dstMode = true
    · rw [hdrLen_of_elided hmode hpan] at hn
      rw [srcSlot_of_elided hmode hpan, srcSlot_of_elided hmode hpan, dstSlot_of_isPrefix h (by omega),
        leAt_of_isPrefix h hn]
    · rw [hdrLen_of_held hmode hpan] at hn
      rw [srcSlot_of_held hmode hpan, srcSlot_of_held hmode hpan, leAt_of_isPrefix h (by omega), leAt_of_isPrefix h hn]

/-! ## The content -/

theorem gtsCount_of_isPrefix {p : Nat} (h : c <+: b) (hn : p + 3 ≤ c.length) : gtsCount c p = gtsCount b p := by
  rw [gtsCount, gtsCount, leAt_of_isPrefix h (by omega)]

theorem pendingOffset_of_isPrefix {p : Nat} (h : c <+: b) (hn : p + 3 ≤ c.length) :
    pendingOffset c p = pendingOffset b p := by
  rw [pendingOffset, pendingOffset, gtsCount_of_isPrefix h hn]

theorem pendingShort_of_isPrefix {p : Nat} (h : c <+: b) (hn : p + 3 ≤ c.length)
    (hq : pendingOffset b p + 1 ≤ c.length) : pendingShort c p = pendingShort b p := by
  rw [pendingShort, pendingShort, pendingOffset_of_isPrefix h hn, leAt_of_isPrefix h hq]

theorem pendingExt_of_isPrefix {p : Nat} (h : c <+: b) (hn : p + 3 ≤ c.length)
    (hq : pendingOffset b p + 1 ≤ c.length) : pendingExt c p = pendingExt b p := by
  rw [pendingExt, pendingExt, pendingOffset_of_isPrefix h hn, leAt_of_isPrefix h hq]

theorem lt_beaconEnd (b : List Byte) (p : Nat) : p + 3 ≤ pendingOffset b p ∧ pendingOffset b p < beaconEnd b p := by
  rw [beaconEnd, pendingOffset]
  omega

theorem beaconEnd_of_isPrefix {p : Nat} (h : c <+: b) :
    beaconEnd c p = beaconEnd b p ∨ (c.length < beaconEnd c p ∧ c.length < beaconEnd b p) := by
  have hc := lt_beaconEnd c p
  have hb := lt_beaconEnd b p
  by_cases hn : p + 3 ≤ c.length
  · have hoff := pendingOffset_of_isPrefix h hn
    by_cases hq : pendingOffset b p + 1 ≤ c.length
    · left
      rw [beaconEnd, beaconEnd, hoff, pendingShort_of_isPrefix h hn hq, pendingExt_of_isPrefix h hn hq]
    · right
      omega
  · right
    omega

theorem beaconAt_of_isPrefix {p : Nat} (h : c <+: b) (hn : beaconEnd b p ≤ c.length) : beaconAt c p = beaconAt b p := by
  have hb := lt_beaconEnd b p
  rw [beaconAt, beaconAt, leAt_of_isPrefix h (by omega), gtsCount_of_isPrefix h (by omega),
    pendingShort_of_isPrefix h (by omega) (by omega), pendingExt_of_isPrefix h (by omega) (by omega)]

theorem contentEnd_of_isPrefix {p : Nat} (ftype : BitVec 3) (h : c <+: b) :
    contentEnd c ftype p = contentEnd b ftype p ∨
      (c.length < contentEnd c ftype p ∧ c.length < contentEnd b ftype p) := by
  unfold contentEnd
  split
  · exact beaconEnd_of_isPrefix h
  all_goals exact .inl rfl

theorem contentAt_of_isPrefix {p : Nat} (ftype : BitVec 3) (h : c <+: b) (hn : contentEnd b ftype p ≤ c.length) :
    contentAt c ftype p = contentAt b ftype p := by
  unfold contentEnd at hn
  unfold contentAt
  generalize ftype.toNat = k at hn
  match k, hn with
  | 0, hn => exact beaconAt_of_isPrefix h hn
  | 1, _ => rfl
  | 2, _ => rfl
  | _ + 3, hn => exact congrArg (fun v => Content.command (BitVec.ofNat 8 v)) (leAt_of_isPrefix h hn)

/-! ## The record -/

theorem frameEnd_of_isPrefix (f : Fcf) (h : c <+: b) :
    frameEnd c f = frameEnd b f ∨ (c.length < frameEnd c f ∧ c.length < frameEnd b f) :=
  contentEnd_of_isPrefix f.ftype h

/-- The shorter frame, where it holds every required field, gives the same record with its own payload. -/
theorem recordAt_of_isPrefix (h : c <+: b) (heq : frameEnd c f = frameEnd b f) (hn : frameEnd b f ≤ c.length) :
    recordAt c f = { recordAt b f with pl := c.drop (frameEnd b f) } := by
  have hhdr := hdrLen_le_frameEnd b f
  have hsrc := srcOffset_le_hdrLen f
  have hseq := three_le_srcOffset f
  rw [recordAt, heq, recordOf, leAt_of_isPrefix h (by omega), dstSlot_of_isPrefix h (by omega),
    srcSlot_of_isPrefix h (by omega), contentAt_of_isPrefix f.ftype h hn]
  rfl

end

/-- Settles O20: the longer frame ends where the shorter one does, and the bytes after that are payload. -/
theorem trailingBytesArePayload : Obligations.TrailingBytesArePayload := by
  intro b t r hr
  obtain ⟨hf, hlen, rfl⟩ := decodeFrame_eq_ok_iff.1 hr
  have hpre : b <+: b ++ t := List.prefix_append b t
  have hthree := three_le_frameEnd b (fcfAt b)
  have hfcf : fcfAt b = fcfAt (b ++ t) := fcfAt_of_isPrefix hpre (by omega)
  have hend : frameEnd b (fcfAt b) = frameEnd (b ++ t) (fcfAt b) :=
    (frameEnd_of_isPrefix _ hpre).resolve_right fun hlt => Nat.not_lt.2 hlen hlt.1
  rw [decodeFrame_eq_ok_iff, ← hfcf, ← hend]
  refine ⟨hf, hlen.trans (List.length_append ▸ Nat.le_add_right _ _), ?_⟩
  have hdrop : (b ++ t).drop (frameEnd b (fcfAt b)) = b.drop (frameEnd b (fcfAt b)) ++ t :=
    List.drop_append_of_le_length hlen
  rw [recordAt_of_isPrefix hpre hend (hend ▸ hlen), ← hend, ← hdrop, hend]
  rfl

/-! ## A frame cut short -/

section
variable {b : List Byte} {r : Frame}

theorem length_sub_payload (hr : decodeFrame b = .ok r) : b.length - r.pl.length = frameEnd b (fcfAt b) := by
  obtain ⟨-, hlen, rfl⟩ := decodeFrame_eq_ok_iff.1 hr
  have hpl : (recordAt b (fcfAt b)).pl.length = b.length - frameEnd b (fcfAt b) := List.length_drop
  omega

theorem decodeFrame_take_frameEnd (hr : decodeFrame b = .ok r) :
    decodeFrame (b.take (frameEnd b (fcfAt b))) = .ok { r with pl := [] } := by
  obtain ⟨hf, hlen, rfl⟩ := decodeFrame_eq_ok_iff.1 hr
  have hthree := three_le_frameEnd b (fcfAt b)
  have hpre : b.take (frameEnd b (fcfAt b)) <+: b := List.take_prefix _ b
  have hcut : (b.take (frameEnd b (fcfAt b))).length = frameEnd b (fcfAt b) := List.length_take_of_le hlen
  have hend : frameEnd (b.take (frameEnd b (fcfAt b))) (fcfAt b) = frameEnd b (fcfAt b) :=
    (frameEnd_of_isPrefix _ hpre).resolve_right fun hlt => by omega
  rw [decodeFrame_eq_ok_iff, fcfAt_of_isPrefix hpre (by omega), hend, recordAt_of_isPrefix hpre hend hcut.ge,
    List.drop_take_self]
  exact ⟨hf, hcut.ge, rfl⟩

theorem decodeFrame_take_of_lt {k : Nat} (hr : decodeFrame b = .ok r) (hk : k < frameEnd b (fcfAt b)) :
    decodeFrame (b.take k) = .error .truncated := by
  obtain ⟨hf, hlen, -⟩ := decodeFrame_eq_ok_iff.1 hr
  have hpre : b.take k <+: b := List.take_prefix k b
  have hcut : (b.take k).length = k := List.length_take_of_le (by omega)
  by_cases htwo : 2 ≤ k
  · have hend : (b.take k).length < frameEnd (b.take k) (fcfAt b) :=
      (frameEnd_of_isPrefix (fcfAt b) hpre).elim (fun heq => by omega) And.left
    rw [decodeFrame_of_readFcf (readFcf_of_le (by omega)), fcfAt_of_isPrefix hpre (by omega), decodeRest_eq hf,
      ifHeld_of_lt hend]
  · exact decodeFrame_of_lt (by omega)

end

/-- Settles O21: without the payload a frame ends at its last required field; a cut frame begins alike, so its end is
where it was or past the cut. -/
theorem cutFramesAreTruncated : Obligations.CutFramesAreTruncated := by
  intro b r hr
  rw [length_sub_payload hr]
  exact ⟨decodeFrame_take_frameEnd hr, fun k hk => decodeFrame_take_of_lt hr hk⟩

end Sys2Proof.Machine
end

section
/-! SUPPORT. ENCODE: its bytes are those of the layouts, and the conditions it asks of a record. -/

namespace Sys2Proof.Machine

/-! ## The bytes of a field and of a slot -/

theorem fieldBytes_eq {w : Nat} (n : Nat) (v : BitVec w) : fieldBytes n v = leBytes n v.toNat := by
  refine List.ext_getElem (by simp [fieldBytes]) fun i _ hi => ?_
  rw [getElem_leBytes_toNat]
  simp [fieldBytes]

theorem mode_cases (m : BitVec 2) : m = 0 ∨ m = 1 ∨ m = 2 ∨ m = 3 := by
  revert m
  decide

/-- An address's bytes by its mode. -/
theorem leBytes_alen (m : BitVec 2) (a : BitVec 64) :
    leBytes (alen m) a.toNat = if m = 2 then fieldBytes 2 a else if m = 3 then fieldBytes 8 a else [] := by
  simp only [fieldBytes_eq]
  obtain rfl | rfl | rfl | rfl := mode_cases m <;> rfl

theorem encodeDst_eq_slotBytes (f : Frame) : encodeDst f = slotBytes f.dst true := by
  rw [encodeDst, slotBytes, leBytes_alen, if_pos rfl, fieldBytes_eq 2 f.dst.pan]

theorem encodeSrc_eq_slotBytes (f : Frame) : encodeSrc f = slotBytes f.src (!(f.pidc && f.dst.mode != 0)) := by
  rw [encodeSrc, slotBytes, leBytes_alen, srcPanElided, fieldBytes_eq 2 f.src.pan]
  cases f.pidc && f.dst.mode != 0 <;> rfl

theorem leBytes_one (v : BitVec 8) : leBytes 1 v.toNat = [v] := by
  simp [leBytes]

/-- The frame control field's two bytes, bits 9:7 zero. -/
theorem leBytes_fcf (f : Frame) : leBytes 2 f.fcf.toWord.toNat =
    [BitVec.ofNat 8 (f.ftype.toNat + 8 * f.sec.toNat + 16 * f.pend.toNat + 32 * f.ackreq.toNat + 64 * f.pidc.toNat),
     BitVec.ofNat 8 (4 * f.dst.mode.toNat + 16 * f.fver.toNat + 64 * f.src.mode.toNat)] := by
  have htype := f.ftype.isLt
  have hsec := Bool.toNat_le f.sec
  have hpend := Bool.toNat_le f.pend
  have hack := Bool.toNat_le f.ackreq
  have hpidc := Bool.toNat_le f.pidc
  have hresv : (0 : BitVec 3).toNat = 0 := rfl
  rw [Fcf.toNat_toWord]
  simp only [leBytes, Frame.fcf, hresv]
  congr 1
  · apply BitVec.eq_of_toNat_eq
    simp only [BitVec.toNat_ofNat]
    omega
  · congr 2
    omega

theorem encodeFrame_eq_frameBytes (f : Frame) : encodeFrame f = frameBytes f := by
  rw [encodeFrame, frameBytes, leBytes_fcf, leBytes_one, encodeDst_eq_slotBytes, encodeSrc_eq_slotBytes]
  cases f.content with
  | beacon sf _ _ _ => rw [encodeContent, ← fieldBytes_eq]; rfl
  | data | other | command _ => rfl

theorem execEncode_of_wf {s : State} (h : s.dp.frame.wf = true) : execEncode s =
    .next ((s.putTxFrame (encodeFrame s.dp.frame)).setDp
      { s.dp with len := BitVec.ofNat 7 (encodeFrame s.dp.frame).length }) := if_pos h

theorem execEncode_of_not_wf {s : State} (h : ¬ s.dp.frame.wf = true) : execEncode s = .refused .encodeIllFormed :=
  if_neg h

/-- Settles O14: ENCODE's fields are the layouts' ones part by part, and it writes them with one write from offset 0. -/
theorem encodeWritesTheRecordAndNothingElse : Obligations.EncodeWritesTheRecordAndNothingElse := by
  refine ⟨encodeFrame_eq_frameBytes, fun s hwf => ?_⟩
  have hlen := length_encodeFrame_le hwf
  rw [← encodeFrame_eq_frameBytes]
  refine ⟨_, execEncode_of_wf hwf, toNat_ofNat_length hlen, bufReadBytes_bufWriteBytes _ _ _, fun a ha => ?_, rfl⟩
  exact bufRead_bufWriteBytes_above _ _ _ _ (by omega)

/-! ## The conditions of a record -/

/-- The conditions of a record that ENCODE takes, in their order (40_frame_codec.md R114). -/
structure Frame.Conditions (f : Frame) : Prop where
  agrees : contentAgrees f.ftype f.content = true
  clear : f.sec = false
  version : f.fver.toNat ≤ 1
  dst : ¬ f.dst.IllFormed
  src : ¬ f.src.IllFormed
  compression : ¬ (f.pidc = true ∧ f.src.mode ≠ 0 ∧ f.dst.mode = 0)
  pan : ¬ (f.pidc = true ∧ f.src.mode ≠ 0 ∧ f.dst.mode ≠ 0 ∧ f.src.pan ≠ f.dst.pan)
  plain : contentPlain f.content = true
  fits : (frameBytes f).length ≤ 125

theorem Addr.wf_iff (a : Addr) : a.wf = true ↔ ¬ a.IllFormed := by
  obtain ⟨mode, pan, addr⟩ := a
  obtain rfl | rfl | rfl | rfl := mode_cases mode <;> simp [Addr.wf, Addr.IllFormed]

theorem Frame.wf_iff_conditions (f : Frame) : f.wf = true ↔ f.Conditions := by
  have hcomp : (!(f.pidc && f.src.mode != 0 && f.dst.mode == 0)) = true ↔
      ¬ (f.pidc = true ∧ f.src.mode ≠ 0 ∧ f.dst.mode = 0) := by
    simp [or_assoc, imp_iff_not_or]
  have hpan : (!(f.pidc && f.src.mode != 0 && f.dst.mode != 0) || f.src.pan == f.dst.pan) = true ↔
      ¬ (f.pidc = true ∧ f.src.mode ≠ 0 ∧ f.dst.mode ≠ 0 ∧ f.src.pan ≠ f.dst.pan) := by
    simp [or_assoc, imp_iff_not_or]
  simp only [Frame.wf, Bool.and_eq_true, decide_eq_true_eq, Addr.wf_iff, encodeFrame_eq_frameBytes, hcomp, hpan,
    Bool.not_eq_true']
  constructor
  · rintro ⟨⟨⟨⟨⟨⟨⟨hagrees, hclear⟩, hversion⟩, hdst, hsrc⟩, hcomp⟩, hpan⟩, hplain⟩, hfits⟩
    exact ⟨hagrees, hclear, hversion, hdst, hsrc, hcomp, hpan, hplain, hfits⟩
  · rintro ⟨hagrees, hclear, hversion, hdst, hsrc, hcomp, hpan, hplain, hfits⟩
    exact ⟨⟨⟨⟨⟨⟨⟨hagrees, hclear⟩, hversion⟩, hdst, hsrc⟩, hcomp⟩, hpan⟩, hplain⟩, hfits⟩

theorem contentAgrees_iff (t : BitVec 3) (c : Content) : contentAgrees t c = true ↔
    ¬ ((∃ sf g p e, c = .beacon sf g p e) ∧ t ≠ 0) ∧ ¬ (c = .data ∧ t ≠ 1) ∧ ¬ (c = .other ∧ t ≠ 2) ∧
      ¬ ((∃ cid, c = .command cid) ∧ t ≠ 3) := by
  cases c <;> simp [contentAgrees]

theorem contentPlain_iff (c : Content) : contentPlain c = true ↔
    ¬ ∃ sf g p e, c = .beacon sf g p e ∧ (g ≠ 0 ∨ p ≠ 0 ∨ e ≠ 0) := by
  cases c <;> simp [contentPlain, and_assoc]

theorem Frame.conditions_iff_not_illFormed (f : Frame) : f.Conditions ↔ ¬ f.IllFormed := by
  have hagrees := contentAgrees_iff f.ftype f.content
  have hplain := contentPlain_iff f.content
  simp only [Frame.IllFormed, not_or]
  constructor
  · intro h
    obtain ⟨hbeacon, hdata, hother, hcommand⟩ := hagrees.1 h.agrees
    exact ⟨hbeacon, hdata, hother, hcommand, by simp [h.clear], Nat.not_le.2 (Nat.lt_succ_of_le h.version), h.dst,
      h.src, h.compression, h.pan, hplain.1 h.plain, Nat.not_lt.2 h.fits⟩
  · rintro ⟨hbeacon, hdata, hother, hcommand, hclear, hversion, hdst, hsrc, hcomp, hpan, hcounts, hfits⟩
    exact ⟨hagrees.2 ⟨hbeacon, hdata, hother, hcommand⟩, Bool.eq_false_iff.2 hclear, by omega, hdst, hsrc, hcomp, hpan,
      hplain.2 hcounts, Nat.not_lt.1 hfits⟩

/-- Settles O15: the check ENCODE makes is that the record fails none of the conditions. -/
theorem encodeRefusesIllFormedRecords : Obligations.EncodeRefusesIllFormedRecords := by
  intro s
  have hwf : s.dp.frame.wf = true ↔ ¬ s.dp.frame.IllFormed :=
    (Frame.wf_iff_conditions _).trans (Frame.conditions_iff_not_illFormed _)
  exact ⟨fun h => execEncode_of_not_wf fun hok => hwf.1 hok h, fun h => ⟨_, execEncode_of_wf (hwf.2 h)⟩⟩

end Sys2Proof.Machine
end

section
/-! SUPPORT. The round trip: each stage of DECODE, on bytes that begin with what ENCODE writes for it, reads the value
it was written from and leaves the bytes after it. -/

namespace Sys2Proof.Machine

/-! ## One field -/

/-- From offset `p`, which the bytes reach, they are `t`. -/
structure RestIs (b : List Byte) (p : Nat) (t : List Byte) : Prop where
  reached : p ≤ b.length
  drop : b.drop p = t

section
variable {b t : List Byte} {p n v : Nat}

theorem RestIs.after {xs : List Byte} (h : RestIs b p (xs ++ t)) (hn : xs.length = n) : RestIs b (p + n) t where
  reached := by
    have hlen := congrArg List.length h.drop
    have hreached := h.reached
    simp only [List.length_drop, List.length_append] at hlen
    omega
  drop := by rw [← List.drop_drop, h.drop, List.drop_left' hn]

theorem RestIs.leAt_eq (h : RestIs b p (leBytes n v ++ t)) (hv : v < 256 ^ n) : leAt b p n = v := by
  rw [← Nat.add_zero p, leAt_add, h.drop, leAt_leBytes_append hv]

theorem RestIs.ofNat_leAt {w : Nat} {x : BitVec w} (h : RestIs b p (leBytes n x.toNat ++ t)) (hx : x.toNat < 256 ^ n) :
    BitVec.ofNat w (leAt b p n) = x := by
  rw [h.leAt_eq hx, BitVec.ofNat_toNat, BitVec.setWidth_eq]

theorem RestIs.ofNat_leAt_two {x : BitVec 16} (h : RestIs b p (leBytes 2 x.toNat ++ t)) :
    BitVec.ofNat 16 (leAt b p 2) = x := h.ofNat_leAt x.isLt

end

/-! ## An address slot -/

/-- The address of a well-formed slot fits the length its mode gives it (40_frame_codec.md R111). -/
theorem addr_lt_of_not_illFormed {a : Addr} (h : ¬ a.IllFormed) (hmode : a.mode ≠ 0) :
    a.addr.toNat < 256 ^ alen a.mode := by
  have haddr := a.addr.isLt
  simp only [Addr.IllFormed, not_or, not_and, not_le] at h
  obtain ⟨hres, -, hshort⟩ := h
  obtain hm | hm | hm | hm := mode_cases a.mode
  · exact absurd hm hmode
  · exact absurd hm hres
  · exact hm ▸ hshort hm
  · rw [hm]
    exact haddr

/-- A well-formed slot without an address is `NONE`. -/
theorem eq_none_of_not_illFormed {a : Addr} (h : ¬ a.IllFormed) (hmode : a.mode = 0) : a = Addr.none := by
  obtain ⟨mode, pan, addr⟩ := a
  simp_all [Addr.IllFormed, Addr.none]

section
variable {f : Frame} {b t : List Byte}

/-- The address of a slot that is held, where its bytes stand. -/
theorem RestIs.ofNat_leAt_addr {a : Addr} {p : Nat} (h : RestIs b p (leBytes (alen a.mode) a.addr.toNat ++ t))
    (ha : ¬ a.IllFormed) (hmode : a.mode ≠ 0) : BitVec.ofNat 64 (leAt b p (alen a.mode)) = a.addr :=
  h.ofNat_leAt (addr_lt_of_not_illFormed ha hmode)

/-- The destination's stage reads the destination and leaves what follows it. -/
theorem dstSlot_of_rest (h : ¬ f.dst.IllFormed) (hb : RestIs b 3 (encodeDst f ++ t)) :
    dstSlot b f.fcf = f.dst ∧ RestIs b (srcOffset f.fcf) t := by
  by_cases hmode : f.dst.mode = 0
  · rw [encodeDst, if_pos hmode] at hb
    rw [srcOffset_of_none hmode, dstSlot_of_none hmode]
    exact ⟨(eq_none_of_not_illFormed h hmode).symm, hb⟩
  · rw [encodeDst, if_neg hmode, List.append_assoc] at hb
    have haddr : RestIs b 5 _ := hb.after (length_leBytes 2 _)
    have hval : BitVec.ofNat 64 (leAt b 5 (alen f.fcf.dstMode)) = f.dst.addr := haddr.ofNat_leAt_addr h hmode
    rw [srcOffset_of_held hmode, dstSlot_of_held hmode, hb.ofNat_leAt_two, hval]
    exact ⟨rfl, haddr.after (length_leBytes _ _)⟩

/-- So does the source's, whose PAN identifier is not written where it equals the destination's. -/
theorem srcSlot_of_rest (h : f.Conditions) (hdst : dstSlot b f.fcf = f.dst)
    (hb : RestIs b (srcOffset f.fcf) (encodeSrc f ++ t)) :
    srcSlot b f.fcf = f.src ∧ RestIs b (hdrLen f.fcf) t := by
  by_cases hmode : f.src.mode = 0
  · rw [encodeSrc, if_pos hmode] at hb
    rw [hdrLen_of_none hmode, srcSlot_of_none hmode]
    exact ⟨(eq_none_of_not_illFormed h.src hmode).symm, hb⟩
  · rw [encodeSrc, if_neg hmode] at hb
    by_cases helided : srcPanElided f.pidc f.dst.mode = true
    · obtain ⟨hpidc, hdstMode⟩ := (srcPanElided_iff _ _).1 helided
      have hpan : f.dst.pan = f.src.pan := by
        by_contra hne
        exact h.pan ⟨hpidc, hmode, hdstMode, Ne.symm hne⟩
      rw [if_pos helided, List.nil_append] at hb
      have hval : BitVec.ofNat 64 (leAt b (srcOffset f.fcf) (alen f.fcf.srcMode)) = f.src.addr :=
        hb.ofNat_leAt_addr h.src hmode
      rw [hdrLen_of_elided hmode helided, srcSlot_of_elided hmode helided, hdst, hpan, hval]
      exact ⟨rfl, hb.after (length_leBytes _ _)⟩
    · rw [if_neg helided, List.append_assoc] at hb
      have haddr := hb.after (length_leBytes 2 _)
      have hval : BitVec.ofNat 64 (leAt b (srcOffset f.fcf + 2) (alen f.fcf.srcMode)) = f.src.addr :=
        haddr.ofNat_leAt_addr h.src hmode
      rw [hdrLen_of_held hmode helided, srcSlot_of_held hmode helided, hb.ofNat_leAt_two, hval]
      exact ⟨rfl, haddr.after (length_leBytes _ _)⟩

end

/-! ## The content -/

/-- The content's stage reads a beacon's counts as the zeros ENCODE writes, so it skips no list. -/
theorem content_of_rest {b t : List Byte} {p : Nat} {ftype : BitVec 3} {c : Content} (ha : contentAgrees ftype c = true)
    (hp : contentPlain c = true) (hb : RestIs b p (encodeContent c ++ t)) :
    contentAt b ftype p = c ∧ RestIs b (contentEnd b ftype p) t := by
  cases c with
  | beacon sf g ps pe =>
    obtain rfl : ftype = 0 := by simpa [contentAgrees] using ha
    obtain ⟨⟨rfl, rfl⟩, rfl⟩ : (g = 0 ∧ ps = 0) ∧ pe = 0 := by simpa [contentPlain] using hp
    rw [encodeContent, List.append_assoc] at hb
    have hcounts : RestIs b (p + 2) (leBytes 1 0 ++ (0 :: t)) := hb.after (length_leBytes 2 _)
    have hpend : RestIs b (p + 3) (leBytes 1 0 ++ t) := hcounts.after rfl
    have hgts : gtsCount b p = 0 := by rw [gtsCount, hcounts.leAt_eq (by omega)]
    have hoff : pendingOffset b p = p + 3 := by rw [pendingOffset, if_pos hgts]
    have hshort : pendingShort b p = 0 := by rw [pendingShort, hoff, hpend.leAt_eq (by omega)]
    have hext : pendingExt b p = 0 := by rw [pendingExt, hoff, hpend.leAt_eq (by omega)]
    have hend : contentEnd b 0 p = p + 3 + 1 := by
      show beaconEnd b p = _
      rw [beaconEnd, hoff, hshort, hext]
    refine ⟨?_, hend ▸ hpend.after rfl⟩
    show beaconAt b p = _
    rw [beaconAt, hb.ofNat_leAt_two, hgts, hshort, hext]
    rfl
  | data =>
    obtain rfl : ftype = 1 := by simpa [contentAgrees] using ha
    exact ⟨rfl, hb⟩
  | other =>
    obtain rfl : ftype = 2 := by simpa [contentAgrees] using ha
    exact ⟨rfl, hb⟩
  | command cid =>
    obtain rfl : ftype = 3 := by simpa [contentAgrees] using ha
    rw [encodeContent, ← leBytes_one] at hb
    exact ⟨congrArg Content.command (hb.ofNat_leAt cid.isLt), hb.after rfl⟩

/-! ## The record -/

theorem ftype_lt_of_contentAgrees {ftype : BitVec 3} {c : Content} (h : contentAgrees ftype c = true) :
    ftype.toNat < 4 := by
  cases c <;> obtain rfl := eq_of_beq h <;> decide

theorem fcfCheck_of_conditions {f : Frame} (h : f.Conditions) : fcfCheck f.fcf = .ok () := by
  have htype : ¬ 4 ≤ f.ftype.toNat := Nat.not_le.2 (ftype_lt_of_contentAgrees h.agrees)
  have hsec : ¬ f.sec = true := Bool.eq_false_iff.1 h.clear
  have hmode : ¬ (f.dst.mode = 1 ∨ f.src.mode = 1) := not_or.2 ⟨fun hm => h.dst (.inl hm), fun hm => h.src (.inl hm)⟩
  have hver : ¬ 2 ≤ f.fver.toNat := Nat.not_le.2 (Nat.lt_succ_of_le h.version)
  exact (fcfCheck_of_four_passed htype hsec hmode hver).trans (if_neg h.compression)

/-- What ENCODE writes for a record that meets the conditions decodes to it (40_frame_codec.md R131). -/
theorem decodeFrame_encodeFrame {f : Frame} (h : f.Conditions) : decodeFrame (encodeFrame f) = .ok f := by
  generalize hb : encodeFrame f = b
  have hfcfBytes : RestIs b 0 (leBytes 2 f.fcf.toWord.toNat ++
      (leBytes 1 f.seq.toNat ++ (encodeDst f ++ (encodeSrc f ++ (encodeContent f.content ++ f.pl))))) :=
    ⟨Nat.zero_le _, by simp only [← hb, encodeFrame, List.drop_zero, List.append_assoc]⟩
  have hseqBytes : RestIs b 2 _ := hfcfBytes.after (length_leBytes 2 _)
  have hfcf : fcfAt b = f.fcf := by rw [fcfAt, hfcfBytes.ofNat_leAt_two, Fcf.ofWord_toWord]
  have hseq : BitVec.ofNat 8 (leAt b 2 1) = f.seq := hseqBytes.ofNat_leAt f.seq.isLt
  obtain ⟨hdst, hsrcBytes⟩ := dstSlot_of_rest h.dst (hseqBytes.after (length_leBytes 1 _))
  obtain ⟨hsrc, hcontentBytes⟩ := srcSlot_of_rest h hdst hsrcBytes
  obtain ⟨hcontent, hpl⟩ := content_of_rest (ftype := f.fcf.ftype) h.agrees h.plain hcontentBytes
  rw [decodeFrame_eq_ok_iff, hfcf]
  refine ⟨fcfCheck_of_conditions h, hpl.reached, ?_⟩
  rw [recordAt, recordOf, hseq, hdst, hsrc, hcontent, frameEnd, hpl.drop, ← h.clear]
  rfl

theorem conditions_buildRequest (q : BitVec 8) {v : BitVec 2} (h : v.toNat ≤ 1) : (buildRequest q v).Conditions where
  agrees := rfl
  clear := rfl
  version := h
  dst := by simp [buildRequest, Addr.short, Addr.IllFormed]
  src := by simp [buildRequest, Addr.none, Addr.IllFormed]
  compression := by simp [buildRequest]
  pan := by simp [buildRequest]
  plain := rfl
  fits := by
    rw [← encodeFrame_eq_frameBytes]
    show 8 ≤ 125
    omega

/-- Settles O16: the bytes read back are those written, which decode stage by stage; a request meets the conditions. -/
theorem encodedFramesDecodeBack : Obligations.EncodedFramesDecodeBack := by
  refine ⟨fun m f hwf => ?_, fun q v hv => ?_⟩
  · exact ⟨encodeFrame f, bufReadBytes_bufWriteBytes _ m 0, decodeFrame_encodeFrame ((Frame.wf_iff_conditions f).1 hwf)⟩
  · exact ⟨_, decodeFrame_encodeFrame (conditions_buildRequest q hv), rfl, rfl⟩

end Sys2Proof.Machine
end

section
/-! SUPPORT. The discovery request: the record BUILD_REQUEST makes, its eight bytes, and what ENCODE does with it. -/

namespace Sys2Proof.Machine

/-- Settles O12: BUILD_REQUEST has one path, and its record is the statement's once the slots' variants `SHORT` and `NONE`
are written out (40_frame_codec.md R111). -/
theorem buildRequestMakesTheDiscoveryRequest : Obligations.BuildRequestMakesTheDiscoveryRequest :=
  fun _ => rfl

/-- The layouts give a request these bytes: the frame control field, the sequence number, the broadcast destination, no
source, the command identifier (41_request_builder.md R151). -/
theorem frameBytes_buildRequest (q : BitVec 8) (v : BitVec 2) : frameBytes (buildRequest q v) =
    [0x03, BitVec.ofNat 8 (8 + 16 * v.toNat), q, 0xFF, 0xFF, 0xFF, 0xFF, 0x07] := by
  have hdst : slotBytes (Addr.short 0xFFFF 0xFFFF) true = [0xFF, 0xFF, 0xFF, 0xFF] := by decide
  have hsrc : slotBytes Addr.none true = [] := rfl
  calc frameBytes (buildRequest q v)
      = [0x03, BitVec.ofNat 8 (8 + 16 * v.toNat), q] ++ slotBytes (Addr.short 0xFFFF 0xFFFF) true ++
          slotBytes Addr.none true ++ [0x07] ++ [] := rfl
    _ = _ := by rw [hdst, hsrc]; rfl

/-- Settles O13: a request of version 0 or 1 is well-formed, so ENCODE writes its bytes and nothing else. -/
theorem requestEncodesToEightBytes : Obligations.RequestEncodesToEightBytes := by
  intro s q v hv hframe
  have hwf : s.dp.frame.wf = true := by
    rw [hframe]
    exact (Frame.wf_iff_conditions _).2 (conditions_buildRequest q hv)
  obtain ⟨t, hexec, hlen, hbytes, habove, -⟩ := encodeWritesTheRecordAndNothingElse.2 s hwf
  rw [hframe, frameBytes_buildRequest] at hlen hbytes habove
  exact ⟨t, hexec, hbytes, BitVec.eq_of_toNat_eq hlen, habove⟩

end Sys2Proof.Machine
end

section
/-! SUPPORT. The beacon classifier: what CLASSIFY answers for each kind of record, and that it writes nothing else. -/

namespace Sys2Proof.Machine

/-- The tuple of a beacon with a source (42_beacon_classifier.md R160). -/
theorem classifyFrame_of_sourced_beacon {f : Frame} {sf : BitVec 16} {g p e : BitVec 3}
    (hbeacon : f.content = .beacon sf g p e) (hsrc : f.src.mode ≠ 0) :
    classifyFrame f = some { pan := f.src.pan, smode := f.src.mode, saddr := f.src.addr
                             coord := sf.getLsbD 14, join := sf.getLsbD 15 } := by
  rw [classifyFrame, hbeacon]
  exact if_neg hsrc

theorem classifyFrame_of_not_beacon {f : Frame} (hother : ∀ sf g p e, f.content ≠ .beacon sf g p e) :
    classifyFrame f = none := by
  unfold classifyFrame
  split
  case h_1 sf g p e hbeacon => exact absurd hbeacon (hother sf g p e)
  all_goals rfl

/-- A record without a source is not reported, whatever its content (42_beacon_classifier.md R160). -/
theorem classifyFrame_of_unsourced {f : Frame} (hsrc : f.src.mode = 0) : classifyFrame f = none := by
  unfold classifyFrame
  split
  case h_1 => exact if_pos hsrc
  all_goals rfl

/-- CLASSIFY has one path: the tuple, or its absence, goes into the datapath (42_beacon_classifier.md R164). -/
theorem exec_classify_eq (s : State) :
    exec .classify s = .next { s with dp := { s.dp with obs := classifyFrame s.dp.frame } } :=
  rfl

/-- Settles O22: CLASSIFY writes only the tuple, which a beacon with a source has and no other record has. -/
theorem classifyExtractsBeaconFields : Obligations.ClassifyExtractsBeaconFields := by
  refine fun s => ⟨fun sf g p e hbeacon hsrc => ?_, fun hnone => ?_⟩
  · rw [exec_classify_eq, classifyFrame_of_sourced_beacon hbeacon hsrc]
  · have hobs : classifyFrame s.dp.frame = none := hnone.elim classifyFrame_of_not_beacon classifyFrame_of_unsourced
    rw [exec_classify_eq, hobs]

end Sys2Proof.Machine
end

section
/-! SUPPORT. The channel sequencer: what CURRENT and ADVANCE answer and leave alone, and that sixteen ADVANCEs go once
round the channels. -/

namespace Sys2Proof.Machine

theorem exec_current_eq (s : State) :
    exec .current s = .next { s with dp := { s.dp with chan := currentChannel s.chIdx } } :=
  rfl

theorem exec_advance_eq (s : State) : exec .advance s = .next { s with chIdx := nextIndex s.chIdx } :=
  rfl

/-- Settles O9: CURRENT has one path, and the table's entry at an index is 11 more than the index. -/
theorem currentAnswersTheChannel : Obligations.CurrentAnswersTheChannel := by
  intro s
  rw [exec_current_eq, currentChannel_eq]

theorem toNat_nextIndex (i : BitVec 4) : (nextIndex i).toNat = (i.toNat + 1) % 16 := by
  rw [nextIndex_eq, BitVec.toNat_add]
  rfl

/-- Settles O10: ADVANCE has one path, and it takes the index on by one mod 16. -/
theorem advanceMovesToTheNextChannel : Obligations.AdvanceMovesToTheNextChannel := by
  intro s
  rw [exec_advance_eq, ← toNat_nextIndex, BitVec.ofNat_toNat, BitVec.setWidth_eq]

theorem toNat_advanceTimes (k : Nat) (i : BitVec 4) : (advanceTimes k i).toNat = (i.toNat + k) % 16 := by
  induction k generalizing i with
  | zero => exact (Nat.mod_eq_of_lt i.isLt).symm
  | succ k ih =>
    rw [advanceTimes, ih, toNat_nextIndex]
    omega

/-- Eleven more than an index fits a channel number's five bits, so the sum does not wrap (10_state.md R33). -/
theorem toNat_currentChannel (i : BitVec 4) : (currentChannel i).toNat = 11 + i.toNat := by
  rw [currentChannel_eq, BitVec.toNat_ofNat]
  have := i.isLt
  omega

theorem currentChannel_advanceTimes_iff (k : Nat) (i : BitVec 4) (c : BitVec 5) :
    currentChannel (advanceTimes k i) = c ↔ 11 + (i.toNat + k) % 16 = c.toNat := by
  rw [← BitVec.toNat_inj, toNat_currentChannel, toNat_advanceTimes]

/-- Settles O11: `k` ADVANCEs reach index `(ch_idx + k) mod 16`, so sixteen change nothing, and channel `c` is CURRENT
after the one number of them below sixteen that is `c - 11 - ch_idx` mod 16. -/
theorem sixteenAdvancesCloseTheRound : Obligations.SixteenAdvancesCloseTheRound := by
  refine fun i => ⟨BitVec.eq_of_toNat_eq ?_, fun c hlow hhigh => ?_⟩
  · rw [toNat_advanceTimes, Nat.add_mod_right, Nat.mod_eq_of_lt i.isLt]
  · have hi := i.isLt
    simp only [currentChannel_advanceTimes_iff]
    refine ⟨⟨(c.toNat - 11 + (16 - i.toNat)) % 16, Nat.mod_lt _ (by decide)⟩, ?_, fun j hj => Fin.ext ?_⟩
    · show 11 + (i.toNat + (c.toNat - 11 + (16 - i.toNat)) % 16) % 16 = c.toNat
      omega
    · show j.val = (c.toNat - 11 + (16 - i.toNat)) % 16
      omega

end Sys2Proof.Machine
end

section
/-! SUPPORT. The FSM's rows, each by what it answers in each of its cases, and one whole hop made of them
(44_scan_loop.md R180 to R203). -/

namespace Sys2Proof.Machine

section
variable {s : State}

/-! ## The race -/

theorem execSRacing_of_no_winner (h : raceWinner Config.arbTie s.rxDonePending s.tickPending = none) :
    execSRacing s = .next s := by
  rw [execSRacing, h]

theorem execSRacing_of_rx_winner (h : raceWinner Config.arbTie s.rxDonePending s.tickPending = some .rx) :
    execSRacing s = .next s.rxWins := by
  rw [execSRacing, h]

theorem execSRacing_of_hop_winner (h : raceWinner Config.arbTie s.rxDonePending s.tickPending = some .hop) :
    execSRacing s = .next s.hopWins := by
  rw [execSRacing, h]

/-- A completed receive wins alone, and under RX_FIRST also against a tick. -/
theorem raceWinner_eq_rx {tie : ArbTie} {tick : Bool} (h : tick = false ∨ tie = .rxFirst) :
    raceWinner tie true tick = some .rx := by
  rcases h with rfl | rfl
  · rfl
  · cases tick <;> rfl

/-- A tick wins alone, and under HOP_FIRST also against a completed receive. -/
theorem raceWinner_eq_hop {tie : ArbTie} {rxDone : Bool} (h : rxDone = false ∨ tie = .hopFirst) :
    raceWinner tie rxDone true = some .hop := by
  rcases h with rfl | rfl
  · rfl
  · cases rxDone <;> rfl

/-! ## The receive's report -/

section
variable {b : List Byte} {f : Frame} {c : BitVec 5}

theorem frameReport_of_observation {o : Observation} (hf : decodeFrame b = .ok f) (ho : classifyFrame f = some o) :
    frameReport c b = some (evtBeacon c o) := by
  simp only [frameReport, hf, ho, Option.map_some]

theorem frameReport_of_no_observation (hf : decodeFrame b = .ok f) (ho : classifyFrame f = none) :
    frameReport c b = none := by
  simp only [frameReport, hf, ho, Option.map_none]

theorem frameReport_of_error {e : DecErr} (he : decodeFrame b = .error e) :
    frameReport c b = some (evtDecodeError c e.code b) := by
  simp only [frameReport, he]

theorem rxReport_of_frame (hk : s.rxKind = kindRxOk) (hb : s.rxFrame = .ok b) :
    s.rxReport = .ok (frameReport s.chan b) := by
  simp only [State.rxReport, if_pos hk, hb]

end

theorem rxReport_of_crc (hk : s.rxKind = kindRxCrc) : s.rxReport = .ok (some (evtLinkQuality s.chan s.rxCrc)) := by
  rw [State.rxReport, hk]
  rfl

theorem rxReport_of_err (hk : s.rxKind = kindRxErr) : s.rxReport = .ok (some (evtReceiveFault s.chan s.rxErr)) := by
  rw [State.rxReport, hk]
  rfl

/-- S_RX appends its record, clears the latch and goes on (44_scan_loop.md R192). -/
theorem execSRx_of_record {e : Evt} (h : s.rxReport = .ok (some e)) :
    execSRx s = .next { s with rxDonePending := false, st := stQuiet, ev := s.ev ++ [e] } := by
  rw [execSRx, h]
  rfl

/-- S_RX without a record clears the latch and goes on (44_scan_loop.md R188, R192). -/
theorem execSRx_of_no_record (h : s.rxReport = .ok none) :
    execSRx s = .next { s with rxDonePending := false, st := stQuiet } := by
  have hev : s.ev ++ (none : Option Evt).toList = s.ev := List.append_nil _
  rw [execSRx, h]
  simp only [State.emitOpt, hev]
  rfl

/-- The listed codes are the decoder's (30_encoding.md R92). -/
theorem mem_decodeErrorCodes {e : DecErr} {k : BitVec 8} : (e, k) ∈ decodeErrorCodes ↔ k = e.code := by
  cases e <;> simp [decodeErrorCodes, DecErr.code]

/-! ## The hop -/

/-- The index after ADVANCE in the statements' words (43_channel_sequencer.md R172). -/
theorem ofNat_succ_mod_eq_nextIndex (i : BitVec 4) : BitVec.ofNat 4 ((i.toNat + 1) % 16) = nextIndex i := by
  rw [← toNat_nextIndex, BitVec.ofNat_toNat, BitVec.setWidth_eq]

/-- The request in `tx_buf` (41_request_builder.md R151). -/
theorem State.request_eq (s : State) : s.request = [0x03, 0x08, s.seq, 0xFF, 0xFF, 0xFF, 0xFF, 0x07] := by
  rw [State.request, encodeFrame_eq_frameBytes, frameBytes_buildRequest]
  rfl

/-- The bytes handed to the radio are the request of the `seq` S_HOP_PREP found. -/
theorem State.txFrame_hopPrepared (s : State) : s.hopPrepared.txFrame = some s.request :=
  bufReadBytes_bufWriteBytes s.request s.txBuf 0

/-- What S_HOP_PREP writes (44_scan_loop.md R193). -/
theorem State.hopPrepared_eq (s : State) : s.hopPrepared =
    { s with
      chIdx := nextIndex s.chIdx, tuneCh := currentChannel (nextIndex s.chIdx), txLen := 8
      txBuf := s.hopPrepared.txBuf, txInflight := true, st := stHopTxwait
      rc := s.rc ++ [.tune (currentChannel (nextIndex s.chIdx)), .txStart 8] } := by
  simp only [State.hopPrepared, State.radio, List.append_assoc]
  rfl

/-- The sequence counter after a report, in the statements' words (44_scan_loop.md R196). -/
theorem ofNat_succ_mod_eq_add_one (q : BitVec 8) : BitVec.ofNat 8 ((q.toNat + 1) % 256) = q + 1 :=
  BitVec.eq_of_toNat_eq (by rw [BitVec.toNat_ofNat, BitVec.toNat_add]; exact Nat.mod_mod _ _)

theorem txReport_of_ok (h : s.txKind = kindTxOk) : s.txReport = evtRequestSent s.chan s.seq := if_pos h

theorem txReport_of_not_ok (h : s.txKind ≠ kindTxOk) : s.txReport = evtTransmitFault s.chan s.seq s.txErr := if_neg h

/-! ## One whole hop -/

theorem execTxOk_of_enabled (hinflight : s.txInflight = true) (hdone : s.txDonePending = false) :
    execTxOk s = .next ((s.setTxKind kindTxOk).setTxDone true) := by
  rw [execTxOk, State.txResponseEnabled, hinflight, hdone]
  rfl

/-- An operation that goes on hands its state to the operations after it. -/
theorem execAll_cons_of_next {i : Instr} {is : List Instr} {t : State} (h : exec i s = .next t) :
    execAll (i :: is) s = execAll is t := by
  rw [execAll, h]

/-- The state in which the radio has answered the request of a hop with TX_OK. -/
def State.hopAnswered (s : State) : State := ((s.setTick true).hopWins.hopPrepared.setTxKind kindTxOk).setTxDone true

/-- The state after a whole hop: the transmit is reported, `seq` has gone on, and a receive is armed. -/
def State.afterHop (s : State) : State :=
  ((((((((s.hopAnswered.emit s.hopAnswered.txReport).setSeq (s.seq + 1)).setTxInflight false).setTxDone false).goto
    stQuiet).goto stIdle).radio .rxStart).setRxArmed true).goto stRacing

/-- The rows of a hop complete one after the other (44_scan_loop.md R182 to R197). -/
theorem execAll_hop (hrx : s.rxDonePending = false) (htx : s.txDonePending = false) :
    execAll [.tick, .sRacing, .sHopPrep, .txOk, .sHopTxwait, .sQuiet, .sIdle] s = .next s.afterHop := by
  have hticked : exec .tick s = .next (s.setTick true) := rfl
  have hwon : exec .sRacing (s.setTick true) = .next (s.setTick true).hopWins :=
    execSRacing_of_hop_winner (raceWinner_eq_hop (.inl hrx))
  have hsent : exec .sHopPrep (s.setTick true).hopWins = .next (s.setTick true).hopWins.hopPrepared :=
    execSHopPrep_eq (s.setTick true).hopWins
  have hanswered : exec .txOk (s.setTick true).hopWins.hopPrepared = .next s.hopAnswered :=
    execTxOk_of_enabled rfl htx
  have hreported : exec .sHopTxwait s.hopAnswered = .next (((((s.hopAnswered.emit s.hopAnswered.txReport).setSeq
      (s.seq + 1)).setTxInflight false).setTxDone false).goto stQuiet) :=
    execSHopTxwait_of_answered (s := s.hopAnswered) rfl
  rw [execAll_cons_of_next hticked, execAll_cons_of_next hwon, execAll_cons_of_next hsent,
    execAll_cons_of_next hanswered, execAll_cons_of_next hreported]
  rfl

/-- The commands of a hop, in their order. -/
theorem State.afterHop_rc (s : State) : s.afterHop.rc =
    s.rc ++ [.rxAbort, .tune (currentChannel (nextIndex s.chIdx)), .txStart 8, .rxStart] := by
  have hrc : s.hopAnswered.rc =
      s.rc ++ [.rxAbort] ++ [.tune (currentChannel (nextIndex s.chIdx)), .txStart 8] :=
    (s.setTick true).hopWins.hopPrepared_rc
  have hafter : s.afterHop.rc = s.hopAnswered.rc ++ [.rxStart] := rfl
  rw [hafter, hrc]
  simp only [List.append_assoc, List.cons_append, List.nil_append]

end

/-! ## The statements -/

/-- Settles O39: each of the four rows has one path, and its named updates are the statement's fields. -/
theorem initIdleQuietAndTickTakeTheirStep : Obligations.InitIdleQuietAndTickTakeTheirStep :=
  fun _ => ⟨rfl, rfl, rfl, rfl⟩

/-- Settles O40: a race with neither latch set has no winner, and a transmit without a response is not answered. -/
theorem waitingStatesHold : Obligations.WaitingStatesHold :=
  fun _ => ⟨fun hrx htick => execSRacing_of_no_winner (raceWinner_none.2 ⟨hrx, htick⟩), execSHopTxwait_of_unanswered⟩

/-- Settles O41: who wins is told by the latches and ARB_TIE, and the winner's row is the statement's. -/
theorem raceHasExactlyOneWinner : Obligations.RaceHasExactlyOneWinner := by
  refine fun s => ⟨fun hrx htie => ?_, fun htick htie => ?_⟩
  · have hwin : raceWinner Config.arbTie s.rxDonePending s.tickPending = some .rx := by
      rw [hrx, raceWinner_eq_rx htie]
    exact execSRacing_of_rx_winner hwin
  · have hwin : raceWinner Config.arbTie s.rxDonePending s.tickPending = some .hop := by
      rw [htick, raceWinner_eq_hop htie]
    exact execSRacing_of_hop_winner hwin

/-- Settles O42: the report of each receive result is told by `rx_kind`, and for a frame by DECODE and CLASSIFY; S_RX
appends it and goes on. -/
theorem receiveIsReportedByKind : Obligations.ReceiveIsReportedByKind := by
  refine fun s => ⟨?observed, ?notObserved, ?undecoded, ?crcFailed, ?receiveFailed⟩
  case observed =>
    intro b f o hk hb hf ho
    exact execSRx_of_record ((rxReport_of_frame hk hb).trans (by rw [frameReport_of_observation hf ho]; rfl))
  case notObserved =>
    intro b f hk hb hf ho
    exact execSRx_of_no_record ((rxReport_of_frame hk hb).trans (by rw [frameReport_of_no_observation hf ho]))
  case undecoded =>
    intro b e k hk hb he hcode
    obtain rfl := mem_decodeErrorCodes.1 hcode
    exact execSRx_of_record ((rxReport_of_frame hk hb).trans (by rw [frameReport_of_error he]; rfl))
  case crcFailed => exact fun hk => execSRx_of_record (rxReport_of_crc hk)
  case receiveFailed => exact fun hk => execSRx_of_record (rxReport_of_err hk)

/-- Settles O43: S_HOP_PREP is never refused, and what it leaves holds the request's eight bytes. -/
theorem hopPreparesTheRequest : Obligations.HopPreparesTheRequest := by
  rintro s i c rfl rfl
  rw [ofNat_succ_mod_eq_nextIndex, ← currentChannel_eq]
  refine ⟨s.hopPrepared, execSHopPrep_eq s, ?_, fun a ha => ?_, s.hopPrepared_eq⟩
  · rw [s.txFrame_hopPrepared, s.request_eq]
  · exact bufRead_bufWriteBytes_above s.request s.txBuf 0 a (by rw [s.length_request]; omega)

/-- Settles O44: an answered S_HOP_TXWAIT has one path, whose record the kind of the answer tells. -/
theorem transmitResultIsReportedAndSeqAdvances : Obligations.TransmitResultIsReportedAndSeqAdvances := by
  intro s
  rw [ofNat_succ_mod_eq_add_one]
  refine ⟨fun htx hk => ?_, fun htx hk => ?_⟩
  · exact (execSHopTxwait_of_answered htx).trans (by rw [txReport_of_ok hk]; rfl)
  · exact (execSHopTxwait_of_answered htx).trans (by rw [txReport_of_not_ok hk]; rfl)

/-- Settles O45: the rows of a hop complete, and the state they leave has these fields. -/
theorem oneHopIsOneReport : Obligations.OneHopIsOneReport := by
  rintro s i c hrx htx rfl rfl
  rw [ofNat_succ_mod_eq_nextIndex, ← currentChannel_eq]
  exact ⟨s.afterHop, execAll_hop hrx htx, rfl, rfl, rfl, BitVec.toNat_add s.seq 1, rfl, rfl, rfl, rfl, rfl, rfl,
    s.afterHop_rc⟩

end Sys2Proof.Machine
end

section
/-! SUPPORT. The moves of an enabled FSM: each is one row of the transition table (44_scan_loop.md R203), and under the
invariants no agent's step faults. -/

namespace Sys2Proof.Machine

section
variable {s t : State}

/-! ## The moves of an enabled FSM -/

/-- The FSM's moves but for its waits, each with what selects it: the race's winner, too, of which `FsmStep` keeps only
the latch. -/
inductive EnabledMove (s : State) : State → Prop where
  | boot (hst : s.st = stInit) : EnabledMove s (((s.setTuneCh s.chan).radio (.tune s.chan)).goto stIdle)
  | arm (hst : s.st = stIdle) : EnabledMove s (((s.radio .rxStart).setRxArmed true).goto stRacing)
  | rxWins (hst : s.st = stRacing) (hwin : raceWinner Config.arbTie s.rxDonePending s.tickPending = some .rx) :
      EnabledMove s s.rxWins
  | hopWins (hst : s.st = stRacing) (hwin : raceWinner Config.arbTie s.rxDonePending s.tickPending = some .hop) :
      EnabledMove s s.hopWins
  | reportRx (hst : s.st = stRx) (e : Option Evt) (he : s.rxReport = .ok e) :
      EnabledMove s (((s.emitOpt e).setRxDone false).goto stQuiet)
  | hop (hst : s.st = stHopPrep) : EnabledMove s s.hopPrepared
  | reportTx (hst : s.st = stHopTxwait) (htx : s.txDonePending = true) :
      EnabledMove s (((((s.emit s.txReport).setSeq (s.seq + 1)).setTxInflight false).setTxDone false).goto stQuiet)
  | rest (hst : s.st = stQuiet) : EnabledMove s (s.goto stIdle)

/-- The move of an enabled race is its winner's. -/
theorem enabledMove_of_racing (hst : s.st = stRacing) (hen : s.fsmEnabled = true) (h : execSRacing s = .next t) :
    EnabledMove s t := by
  cases hwin : raceWinner Config.arbTie s.rxDonePending s.tickPending with
  | none =>
    obtain ⟨hrx, htick⟩ := raceWinner_none.1 hwin
    simp [fsmEnabled_of_racing hst, hrx, htick] at hen
  | some w =>
    cases w with
    | rx =>
      rw [execSRacing_of_rx_winner hwin] at h
      cases h
      exact .rxWins hst hwin
    | hop =>
      rw [execSRacing_of_hop_winner hwin] at h
      cases h
      exact .hopWins hst hwin

theorem fsmMove_next_of_enabled (hen : s.fsmEnabled = true) (h : fsmMove s = .next t) : EnabledMove s t := by
  rcases fsmMove_cases s with ⟨hst, hmove⟩ | ⟨hst, hmove⟩ | ⟨hst, hmove⟩ | ⟨hst, hmove⟩ | ⟨hst, hmove⟩ | ⟨hst, hmove⟩ |
    ⟨hst, hmove⟩ | ⟨hst, hmove⟩ <;> rw [hmove] at h
  · cases h
    exact .boot hst
  · cases h
    exact .arm hst
  · exact enabledMove_of_racing hst hen h
  · obtain ⟨e, he, rfl⟩ := execSRx_next h
    exact .reportRx hst e he
  · rw [execSHopPrep_eq] at h
    cases h
    exact .hop hst
  · rw [fsmEnabled_of_hopTxwait hst] at hen
    rw [execSHopTxwait_of_answered hen] at h
    cases h
    exact .reportTx hst hen
  · cases h
    exact .rest hst
  · cases h

/-! ## The reports of the table -/

/-- What S_RX may append for each receive result (44_scan_loop.md R203). -/
def RxReportRow (s : State) (ev : List Evt) : Prop :=
  (∃ b f o, s.rxKind = kindRxOk ∧ s.rxFrame = .ok b ∧ decodeFrame b = .ok f ∧ classifyFrame f = some o ∧
    ev = s.ev ++ [evtBeacon s.chan o]) ∨
  (∃ b f, s.rxKind = kindRxOk ∧ s.rxFrame = .ok b ∧ decodeFrame b = .ok f ∧ classifyFrame f = none ∧ ev = s.ev) ∨
  (∃ b e k, s.rxKind = kindRxOk ∧ s.rxFrame = .ok b ∧ decodeFrame b = .error e ∧ (e, k) ∈ decodeErrorCodes ∧
    ev = s.ev ++ [evtDecodeError s.chan k b]) ∨
  (s.rxKind = kindRxCrc ∧ ev = s.ev ++ [evtLinkQuality s.chan s.rxCrc]) ∨
  (s.rxKind = kindRxErr ∧ ev = s.ev ++ [evtReceiveFault s.chan s.rxErr])

/-- A received frame's report is told by DECODE and CLASSIFY. -/
theorem rxReportRow_of_frame {b : List Byte} (hk : s.rxKind = kindRxOk) (hb : s.rxFrame = .ok b) :
    RxReportRow s (s.ev ++ (frameReport s.chan b).toList) := by
  cases hdec : decodeFrame b with
  | error e =>
    refine .inr (.inr (.inl ⟨b, e, e.code, hk, hb, hdec, mem_decodeErrorCodes.2 rfl, ?_⟩))
    rw [frameReport_of_error hdec]
    rfl
  | ok f =>
    cases hobs : classifyFrame f with
    | none =>
      refine .inr (.inl ⟨b, f, hk, hb, hdec, hobs, ?_⟩)
      rw [frameReport_of_no_observation hdec hobs]
      exact List.append_nil _
    | some o =>
      refine .inl ⟨b, f, o, hk, hb, hdec, hobs, ?_⟩
      rw [frameReport_of_observation hdec hobs]
      rfl

/-- A latched receive is reported by one of the table's rows. -/
theorem ScanInv.rxReportRow (h : ScanInv s) (hst : s.st = stRx) {e : Option Evt} (he : s.rxReport = .ok e) :
    RxReportRow s (s.ev ++ e.toList) := by
  have hdone := h.rxHeld hst
  rcases h.rxKinds hdone with hk | hk | hk
  · obtain ⟨b, hb⟩ := h.rxHeldFrame hdone hk
    obtain rfl := Except.ok.inj ((rxReport_of_frame hk hb).symm.trans he)
    exact rxReportRow_of_frame hk hb
  · obtain rfl := Except.ok.inj ((rxReport_of_crc hk).symm.trans he)
    exact .inr (.inr (.inr (.inl ⟨hk, rfl⟩)))
  · obtain rfl := Except.ok.inj ((rxReport_of_err hk).symm.trans he)
    exact .inr (.inr (.inr (.inr ⟨hk, rfl⟩)))

/-- The radio's answer is reported by one of the table's rows. -/
theorem ScanInv.txReport_eq (h : ScanInv s) (htx : s.txDonePending = true) :
    (s.txKind = kindTxOk ∧ s.txReport = evtRequestSent s.chan s.seq) ∨
      (s.txKind = kindTxErr ∧ s.txReport = evtTransmitFault s.chan s.seq s.txErr) := by
  rcases h.txKinds htx with hk | hk
  · exact .inl ⟨hk, txReport_of_ok hk⟩
  · exact .inr ⟨hk, txReport_of_not_ok (by rw [hk]; decide)⟩

end

/-- Settles O52: an enabled FSM's moves are the table's rows, and under the invariants so are the two reports. -/
theorem fsmTransitionsAreTheTable : Obligations.FsmTransitionsAreTheTable := by
  intro s t h hen hmove
  cases fsmMove_next_of_enabled hen hmove with
  | boot hst => exact .inl ⟨hst, rfl, rfl, rfl⟩
  | arm hst => exact .inr (.inl ⟨hst, rfl, rfl, rfl⟩)
  | rxWins hst hwin => exact .inr (.inr (.inl ⟨hst, hwin, rfl, rfl, rfl⟩))
  | hopWins hst hwin => exact .inr (.inr (.inr (.inl ⟨hst, hwin, rfl, rfl, rfl⟩)))
  | reportRx hst e he => exact .inr (.inr (.inr (.inr (.inl ⟨hst, rfl, rfl, h.rxReportRow hst he⟩))))
  | hop hst => exact .inr (.inr (.inr (.inr (.inr (.inl ⟨hst, rfl, s.hopPrepared_rc, rfl⟩)))))
  | reportTx hst htx =>
    refine .inr (.inr (.inr (.inr (.inr (.inr (.inl ⟨hst, rfl, rfl, ?_⟩))))))
    obtain ⟨hk, hrep⟩ | ⟨hk, hrep⟩ := h.txReport_eq htx
    · exact .inl ⟨hk, congrArg (s.ev ++ [·]) hrep⟩
    · exact .inr ⟨hk, congrArg (s.ev ++ [·]) hrep⟩
  | rest hst => exact .inr (.inr (.inr (.inr (.inr (.inr (.inr ⟨hst, rfl, rfl, rfl⟩))))))

/-! ## No fault -/

section
variable {s : State}

theorem noFault_next (t : State) : NoFault (.next t) := by simp [NoFault]

theorem noFault_refused (r : Refusal) : NoFault (.refused r) := by simp [NoFault]

theorem fsmMove_of_racing (hst : s.st = stRacing) : fsmMove s = execSRacing s := by
  rw [fsmMove, State.stateWord, hst]
  rfl

theorem fsmMove_of_hopTxwait (hst : s.st = stHopTxwait) : fsmMove s = execSHopTxwait s := by
  rw [fsmMove, State.stateWord, hst]
  rfl

/-- A waiting FSM's move holds the state (60_exceptions.md R256). -/
theorem fsmMove_of_not_enabled (hen : s.fsmEnabled = false) : fsmMove s = .next s := by
  unfold State.fsmEnabled at hen
  split_ifs at hen with hracing htxwait
  · exact (fsmMove_of_racing hracing).trans
      (execSRacing_of_no_winner (raceWinner_none.2 (Bool.or_eq_false_iff.1 hen)))
  · exact (fsmMove_of_hopTxwait htxwait).trans (execSHopTxwait_of_unanswered hen)

/-- Under the invariants the FSM waits, or its move goes on. -/
theorem ScanInv.completes_fsmMove (h : ScanInv s) : Completes (fsmMove s) := by
  cases hen : s.fsmEnabled with
  | false => exact ⟨s, fsmMove_of_not_enabled hen⟩
  | true =>
    obtain ⟨t, hmove, -⟩ := moveLowers h hen
    exact ⟨t, hmove⟩

theorem ScanInv.noFault_fsmMove (h : ScanInv s) : NoFault (fsmMove s) := by
  obtain ⟨t, ht⟩ := h.completes_fsmMove
  rw [ht]
  exact noFault_next t

/-- A radio response goes on or is refused. -/
theorem noFault_of_radioRsp {i : Instr} (hi : i.format = .radioRsp) : NoFault (exec i s) := by
  cases i with
  | rxOk _ =>
    rw [exec, execRxOk]
    split
    · exact noFault_refused _
    · split
      · exact noFault_refused _
      · exact noFault_next _
  | rxCrc _ | rxErr _ | txOk | txErr _ =>
    simp only [exec, execRxCrc, execRxErr, execTxOk, execTxErr]
    split
    · exact noFault_refused _
    · exact noFault_next _
  | rspReserved _ => exact noFault_refused _
  | _ => cases hi

/-- A collaborator's word is the radio's or HOPTMR's. -/
theorem radioRsp_or_isTick_of_isAgent {fmt : Format} {bytes : List Byte} (ha : (Item.op fmt bytes).isAgent = true) :
    fmt = .radioRsp ∨ (Item.op fmt bytes).isTick = true := by
  cases fmt with
  | radioRsp => exact .inl rfl
  | _ => exact .inr ha

/-- A collaborator's word goes on or is refused: it reads no buffer. -/
theorem noFault_runWord_of_isAgent {fmt : Format} {bytes : List Byte} (ha : (Item.op fmt bytes).isAgent = true) :
    NoFault (runWord fmt bytes s) := by
  cases hd : decode fmt bytes with
  | error r =>
    rw [runWord, hd]
    exact noFault_refused _
  | ok x =>
    obtain ⟨i, rest⟩ := x
    rw [runWord_of_decode s hd]
    obtain rfl | ht := radioRsp_or_isTick_of_isAgent ha
    · exact noFault_of_radioRsp (format_of_decode_radioRsp hd)
    · obtain ⟨rest', hd'⟩ := decode_tick ht
      rw [hd'] at hd
      cases hd
      exact noFault_next _

/-- Under the invariants no agent's item faults. -/
theorem ScanInv.noFault_runItem (h : ScanInv s) {it : Item} (ha : it.isAgent = true) : NoFault (runItem it s) := by
  cases it with
  | reset => exact noFault_next _
  | fsm => exact h.noFault_fsmMove
  | step =>
    rw [runItem]
    split
    · exact h.noFault_fsmMove
    · exact noFault_refused _
  | run =>
    have hall : (Item.run :: s.agenda).all Item.isAgent = true := by rw [List.all_cons, h.agents]; rfl
    rw [runItem]
    split
    · exact (h.setAgenda hall).noFault_fsmMove
    · exact noFault_next _
  | op fmt bytes => exact noFault_runWord_of_isAgent ha

theorem ScanInv.noFault_runNext (h : ScanInv s) {it : Item} (ha : it.isAgent = true) : NoFault (runNext it s) := by
  rw [runNext_of_st_ne_reserved it h.legal]
  exact h.noFault_runItem ha

end

/-- Settles O50: the agenda's head is an agent's item, and from a state with the invariants none of those faults. -/
theorem noFaultUnderTheScanInvariants : Obligations.NoFaultUnderTheScanInvariants := by
  intro s h
  obtain ⟨-, hs⟩ | ⟨it, rest, ha, hs⟩ := step_cases s <;> rw [hs]
  · exact h.noFault_runNext rfl
  · have hhead : it.isAgent = true := List.all_eq_true.1 h.agents it (ha ▸ List.mem_cons_self)
    exact (h.setAgenda (h.agents_of_suffix (ha ▸ List.suffix_cons it rest))).noFault_runNext hhead

end Sys2Proof.Machine
end

section
/-! SUPPORT. The two counters and the traces they count: `seq` and the transmit reports, `ch_idx` and the TX_START
commands (44_scan_loop.md R193, R196, R199). -/

namespace Sys2Proof.Machine

section
variable {s t : State}

/-! ## Counting a trace -/

theorem txReports_append (ev es : List Evt) : txReports (ev ++ es) = txReports ev + txReports es := by
  simp only [txReports, List.filter_append, List.length_append]

theorem txStarts_append (rc cs : List Rcmd) : txStarts (rc ++ cs) = txStarts rc + txStarts cs := by
  simp only [txStarts, List.filter_append, List.length_append]

/-- S_HOP_TXWAIT's record is a transmit report, whatever the answer's kind is (44_scan_loop.md R194, R195). -/
theorem txReports_txReport (s : State) : txReports [s.txReport] = 1 := by
  unfold State.txReport
  split <;> rfl

theorem txReports_frameReport (c : BitVec 5) (b : List Byte) : txReports (frameReport c b).toList = 0 := by
  cases hdec : decodeFrame b with
  | error e =>
    rw [frameReport_of_error hdec]
    rfl
  | ok f =>
    cases hobs : classifyFrame f with
    | none =>
      rw [frameReport_of_no_observation hdec hobs]
      rfl
    | some o =>
      rw [frameReport_of_observation hdec hobs]
      rfl

/-- What S_RX reports is no transmit report (44_scan_loop.md R187 to R191). -/
theorem txReports_rxReport {e : Option Evt} (h : s.rxReport = .ok e) : txReports e.toList = 0 := by
  unfold State.rxReport at h
  split at h
  · split at h
    · cases h
    · cases h
      exact txReports_frameReport _ _
  · split_ifs at h <;> cases h <;> rfl

/-! ## The counters' invariants -/

/-- `seq` is the number of transmit reports mod 256. -/
def State.SeqFollows (s : State) : Prop := s.seq.toNat = txReports s.ev % 256

/-- `ch_idx` is the number of TX_START commands mod 16. -/
def State.ChIdxFollows (s : State) : Prop := s.chIdx.toNat = txStarts s.rc % 16

/-- A step that leaves `seq` and appends no transmit report. -/
theorem State.SeqFollows.of_kept (h : s.SeqFollows) (hseq : t.seq = s.seq) (es : List Evt) (hev : t.ev = s.ev ++ es)
    (hes : txReports es = 0) : t.SeqFollows := by
  rw [State.SeqFollows, hseq, hev, txReports_append, hes]
  exact h

/-- A step that counts `seq` up and appends one transmit report. -/
theorem State.SeqFollows.of_counted (h : s.SeqFollows) (hseq : t.seq = s.seq + 1) (es : List Evt)
    (hev : t.ev = s.ev ++ es) (hes : txReports es = 1) : t.SeqFollows := by
  rw [State.SeqFollows] at h
  rw [State.SeqFollows, hseq, hev, txReports_append, hes, BitVec.toNat_add, h]
  exact Nat.mod_add_mod _ _ _

/-- A step that leaves `ch_idx` and appends no TX_START. -/
theorem State.ChIdxFollows.of_kept (h : s.ChIdxFollows) (hidx : t.chIdx = s.chIdx) (cs : List Rcmd)
    (hrc : t.rc = s.rc ++ cs) (hcs : txStarts cs = 0) : t.ChIdxFollows := by
  rw [State.ChIdxFollows, hidx, hrc, txStarts_append, hcs]
  exact h

/-- A step that moves `ch_idx` on and appends one TX_START. -/
theorem State.ChIdxFollows.of_counted (h : s.ChIdxFollows) (hidx : t.chIdx = nextIndex s.chIdx) (cs : List Rcmd)
    (hrc : t.rc = s.rc ++ cs) (hcs : txStarts cs = 1) : t.ChIdxFollows := by
  rw [State.ChIdxFollows] at h
  rw [State.ChIdxFollows, hidx, hrc, txStarts_append, hcs, toNat_nextIndex, h]
  exact Nat.mod_add_mod _ _ _

/-! ## Each step keeps them -/

theorem FsmStep.seqFollows (hm : FsmStep s t) (h : s.SeqFollows) : t.SeqFollows := by
  cases hm with
  | reportRx _ e he => exact h.of_kept rfl e.toList rfl (txReports_rxReport he)
  | reportTx _ _ => exact h.of_counted rfl [s.txReport] rfl (txReports_txReport s)
  | boot _ | arm _ | raceWaits _ | rxWins _ _ | hopWins _ _ | hop _ | txWaits _ | rest _ => exact h

theorem FsmStep.chIdxFollows (hm : FsmStep s t) (h : s.ChIdxFollows) : t.ChIdxFollows := by
  cases hm with
  | boot _ => exact h.of_kept rfl [.tune s.chan] rfl rfl
  | arm _ => exact h.of_kept rfl [.rxStart] rfl rfl
  | hopWins _ _ => exact h.of_kept rfl [.rxAbort] rfl rfl
  | hop _ => exact h.of_counted rfl _ s.hopPrepared_rc rfl
  | raceWaits _ | rxWins _ _ | reportRx _ _ _ | txWaits _ | reportTx _ _ | rest _ => exact h

/-- The collaborators touch neither the counters nor the traces (10_state.md R34). -/
theorem CollaboratorStep.seqFollows {it : Item} (hc : CollaboratorStep it s t) (h : s.SeqFollows) : t.SeqFollows := by
  cases hc <;> exact h

theorem CollaboratorStep.chIdxFollows {it : Item} (hc : CollaboratorStep it s t) (h : s.ChIdxFollows) :
    t.ChIdxFollows := by
  cases hc <;> exact h

end

/-- Settles O56: both counts are 0 at reset; a report counts `seq` up, a hop moves `ch_idx` on, and no other step
changes a counter or what it counts. -/
theorem countersFollowTheTraces : Obligations.CountersFollowTheTraces := by
  refine ⟨⟨rfl, rfl⟩, fun s t hagent (hseq : s.SeqFollows) (hidx : s.ChIdxFollows) hs => ?_⟩
  obtain ⟨rest, -, rfl⟩ | ⟨a, -, hm⟩ | ⟨a, -, rfl⟩ | ⟨fmt, bytes, rest, ha, hw⟩ := step_next hs
  · exact ⟨rfl, rfl⟩
  · exact ⟨(fsmMove_next hm).seqFollows hseq, (fsmMove_next hm).chIdxFollows hidx⟩
  · exact ⟨hseq, hidx⟩
  · have hword : (Item.op fmt bytes).isAgent = true := by simpa [State.nextIsAgent, ha] using hagent
    have hstep := runWord_isAgent_next hword hw
    exact ⟨hstep.seqFollows hseq, hstep.chIdxFollows hidx⟩

end Sys2Proof.Machine
end

section
/-! SUPPORT. Fair runs (45_interfaces.md R231): every step keeps the state register or leads the FSM nearer to S_IDLE,
and an FSM outside S_IDLE moves in the end. -/

namespace Sys2Proof.Machine

/-! ## The way to S_IDLE -/

/-- The most moves from a state code to S_IDLE (44_scan_loop.md R203): a hop takes four from the race, a receive
three. -/
def toIdle (x : BitVec 3) : Nat :=
  if x = stRacing then 4
  else if x = stHopPrep then 3
  else if x = stRx ∨ x = stHopTxwait then 2
  else if x = stInit ∨ x = stQuiet then 1
  else 0

section
variable {s t : State}

theorem EnabledMove.toIdle_lt (h : EnabledMove s t) (hidle : s.st ≠ stIdle) : toIdle t.st < toIdle s.st := by
  cases h with
  | arm hst => exact absurd hst hidle
  | boot hst | rest hst =>
    rw [hst]
    exact (by decide : toIdle stIdle < 1)
  | rxWins hst _ =>
    rw [hst]
    exact (by decide : toIdle stRx < toIdle stRacing)
  | hopWins hst _ =>
    rw [hst]
    exact (by decide : toIdle stHopPrep < toIdle stRacing)
  | hop hst =>
    rw [hst]
    exact (by decide : toIdle stHopTxwait < toIdle stHopPrep)
  | reportRx hst _ _ | reportTx hst _ =>
    rw [hst]
    exact (by decide : toIdle stQuiet < 2)

/-! ## Where the FSM stays enabled -/

/-- A step that keeps the state register and clears no latch keeps an enabled FSM enabled. -/
theorem fsmEnabled_of_latches_kept (hst : t.st = s.st) (hrx : s.rxDonePending = true → t.rxDonePending = true)
    (htick : s.tickPending = true → t.tickPending = true) (htx : s.txDonePending = true → t.txDonePending = true)
    (hen : s.fsmEnabled = true) : t.fsmEnabled = true := by
  unfold State.fsmEnabled at hen ⊢
  rw [hst]
  split_ifs at hen ⊢ with hracing htxwait
  · rw [Bool.or_eq_true] at hen ⊢
    exact hen.imp hrx htick
  · exact htx hen
  · rfl

theorem CollaboratorStep.st_eq {it : Item} (h : CollaboratorStep it s t) : t.st = s.st := by
  cases h <;> rfl

/-- The collaborators clear no latch. -/
theorem CollaboratorStep.fsmEnabled {it : Item} (h : CollaboratorStep it s t) (hen : s.fsmEnabled = true) :
    t.fsmEnabled = true := by
  cases h with
  | rxOk _ _ _ | rxCrc _ _ | rxErr _ _ => exact fsmEnabled_of_latches_kept (s := s) rfl (fun _ => rfl) id id hen
  | txOk _ | txErr _ _ => exact fsmEnabled_of_latches_kept (s := s) rfl id id (fun _ => rfl) hen
  | tick _ _ => exact fsmEnabled_of_latches_kept (s := s) rfl id (fun _ => rfl) id hen

/-- Outside the race and the transmit's wait the FSM is always enabled. -/
theorem fsmEnabled_of_not_waiting (hracing : s.st ≠ stRacing) (htxwait : s.st ≠ stHopTxwait) :
    s.fsmEnabled = true := by
  rw [State.fsmEnabled, if_neg hracing, if_neg htxwait]

/-! ## The items of a fair run -/

/-- HOPTMR's word sets the tick latch. -/
theorem runNext_of_isTick {it : Item} (ht : it.isTick = true) (hst : s.st ≠ stReserved) :
    runNext it s = .next (s.setTick true) := by
  cases it with
  | op fmt bytes =>
    obtain ⟨r, hd⟩ := decode_tick ht
    exact runNext_op_of_decode hst hd
  | _ => cases ht

/-- An agent's item keeps the invariants. -/
theorem ScanInv.of_runNext {it : Item} (h : ScanInv s) (ha : it.isAgent = true) (hr : runNext it s = .next t) :
    ScanInv t := by
  have hall : (it :: s.agenda).all Item.isAgent = true := by rw [List.all_cons, ha, h.agents]; rfl
  exact stepKeepsTheScanInvariants _ t (h.setAgenda hall) ((step_of_agenda_cons rfl).trans hr)

/-- What an agent's item can do that is no reset and no script's `run`: the FSM's move, or a collaborator's step. -/
theorem runNext_agent_next {it : Item} (ha : it.isAgent = true) (hreset : it ≠ .reset) (hrun : it ≠ .run)
    (h : runNext it s = .next t) :
    fsmMove s = .next t ∨ (it.movesFsm = false ∧ CollaboratorStep it s t) := by
  obtain ⟨rfl, -⟩ | ⟨-, ⟨-, hm⟩ | ⟨-, -, hm⟩ | ⟨rfl, -, -⟩ | ⟨rfl, -, -⟩ | ⟨fmt, bytes, rfl, hw⟩⟩ := runNext_next h
  · exact absurd rfl hreset
  · exact .inl hm
  · exact .inl hm
  · exact absurd rfl hrun
  · exact absurd rfl hrun
  · exact .inr ⟨rfl, runWord_isAgent_next ha hw⟩

/-- Outside S_IDLE such an item leads nearer to it; or it keeps the state register, keeps an enabled FSM enabled, and
is no move of an enabled FSM. -/
theorem runNext_progress {it : Item} (ha : it.isAgent = true) (hreset : it ≠ .reset) (hrun : it ≠ .run)
    (h : runNext it s = .next t) (hidle : s.st ≠ stIdle) :
    toIdle t.st < toIdle s.st ∨
      (t.st = s.st ∧ (s.fsmEnabled = true → t.fsmEnabled = true ∧ it.movesFsm = false)) := by
  obtain hm | ⟨hother, hc⟩ := runNext_agent_next ha hreset hrun h
  · cases hen : s.fsmEnabled with
    | true => exact .inl ((fsmMove_next_of_enabled hen hm).toIdle_lt hidle)
    | false =>
      rw [fsmMove_of_not_enabled hen] at hm
      cases hm
      exact .inr ⟨rfl, fun hfalse => absurd hfalse Bool.false_ne_true⟩
  · exact .inr ⟨hc.st_eq, fun hen => ⟨hc.fsmEnabled hen, hother⟩⟩

end

/-! ## Fair runs -/

namespace FairRun

variable {σ : Nat → State} {α : Nat → Item}

theorem scanInv (h : FairRun σ α) (n : Nat) : ScanInv (σ n) := by
  induction n with
  | zero => exact h.start
  | succ n ih => exact ih.of_runNext (h.agent n).1 (h.steps n)

theorem progress (h : FairRun σ α) (n : Nat) (hidle : (σ n).st ≠ stIdle) :
    toIdle (σ (n + 1)).st < toIdle (σ n).st ∨ ((σ (n + 1)).st = (σ n).st ∧
      ((σ n).fsmEnabled = true → (σ (n + 1)).fsmEnabled = true ∧ (α n).movesFsm = false)) := by
  obtain ⟨ha, hreset, hrun⟩ := h.agent n
  exact runNext_progress ha hreset hrun (h.steps n) hidle

/-- An FSM that stays in one state is enabled in the end: a tick ends the race's wait, and every transmit is answered. -/
theorem eventually_enabled (h : FairRun σ α) {n : Nat} (hstay : ∀ m, n ≤ m → (σ m).st = (σ n).st) :
    ∃ m, n ≤ m ∧ (σ m).fsmEnabled = true := by
  by_cases hracing : (σ n).st = stRacing
  · obtain ⟨m, hm, htick⟩ := h.ticks n
    have hnext : σ (m + 1) = (σ m).setTick true :=
      Host.Outcome.next.inj ((h.steps m).symm.trans (runNext_of_isTick htick (h.scanInv m).legal))
    refine ⟨m + 1, Nat.le_succ_of_le hm, ?_⟩
    rw [fsmEnabled_of_racing ((hstay _ (Nat.le_succ_of_le hm)).trans hracing), hnext]
    exact Bool.or_true _
  · by_cases htxwait : (σ n).st = stHopTxwait
    · obtain ⟨m, hm, htx⟩ := h.answers n ((h.scanInv n).inflight.2 htxwait)
      exact ⟨m, hm, (fsmEnabled_of_hopTxwait ((hstay m hm).trans htxwait)).trans htx⟩
    · exact ⟨n, le_rfl, fsmEnabled_of_not_waiting hracing htxwait⟩

/-- Outside S_IDLE the FSM comes nearer to it: if it never did, it would stay in one state, be enabled there from some
point on, and so move. -/
theorem eventually_nearer (h : FairRun σ α) (n : Nat) (hidle : (σ n).st ≠ stIdle) :
    ∃ m, n ≤ m ∧ toIdle (σ m).st < toIdle (σ n).st := by
  by_contra hno
  have hfar : ∀ m, n ≤ m → ¬ toIdle (σ m).st < toIdle (σ n).st := fun m hm hlt => hno ⟨m, hm, hlt⟩
  have hkeeps : ∀ m, n ≤ m → (σ m).st = (σ n).st → (σ (m + 1)).st = (σ m).st ∧
      ((σ m).fsmEnabled = true → (σ (m + 1)).fsmEnabled = true ∧ (α m).movesFsm = false) := fun m hm hst =>
    (h.progress m (hst ▸ hidle)).resolve_left (hst ▸ hfar (m + 1) (Nat.le_succ_of_le hm))
  have hstay : ∀ m, n ≤ m → (σ m).st = (σ n).st := fun m hm =>
    Nat.le_induction rfl (fun k hk ih => (hkeeps k hk ih).1.trans ih) m hm
  obtain ⟨k, hk, hen⟩ := h.eventually_enabled hstay
  have henabled : ∀ m, k ≤ m → (σ m).fsmEnabled = true := fun m hm =>
    Nat.le_induction hen (fun j hj ih => ((hkeeps j (hk.trans hj) (hstay j (hk.trans hj))).2 ih).1) m hm
  obtain ⟨m, hm, hmoves⟩ := h.moves k henabled
  have hnm : n ≤ m := hk.trans hm
  have hstill : (α m).movesFsm = false := ((hkeeps m hnm (hstay m hnm)).2 (henabled m hm)).2
  simp [hstill] at hmoves

theorem eventually_idle (h : FairRun σ α) (n : Nat) : ∃ m, n ≤ m ∧ (σ m).st = stIdle := by
  induction hd : toIdle (σ n).st using Nat.strong_induction_on generalizing n with
  | _ d ih =>
    by_cases hidle : (σ n).st = stIdle
    · exact ⟨n, le_rfl, hidle⟩
    · obtain ⟨m, hm, hlt⟩ := h.eventually_nearer n hidle
      obtain ⟨k, hk, hst⟩ := ih _ (hd ▸ hlt) m rfl
      exact ⟨k, hm.trans hk, hst⟩

end FairRun

/-- Settles O58: outside S_IDLE a fair run comes nearer to it again and again, which ends. -/
theorem fairRunsComeBackToIdle : Obligations.FairRunsComeBackToIdle :=
  fun _ _ h n => h.eventually_idle n

end Sys2Proof.Machine
end

section
/-! SUPPORT. The radio port and the report port: when a response is enabled, what each response answers where it is and
where it is not, and the statements about the responses, the commands and the event transactions. -/

namespace Sys2Proof.Machine

section
variable {s : State}

/-! ## When a response is enabled -/

theorem rxResponseEnabled_eq_true :
    s.rxResponseEnabled = true ↔ s.rxArmed = true ∧ s.rxDonePending = false := by
  rw [State.rxResponseEnabled, Bool.and_eq_true, Bool.not_eq_true']

theorem rxResponseEnabled_eq_false :
    s.rxResponseEnabled = false ↔ s.rxArmed = false ∨ s.rxDonePending = true := by
  rw [State.rxResponseEnabled, Bool.and_eq_false_iff, Bool.not_eq_false']

theorem txResponseEnabled_eq_true :
    s.txResponseEnabled = true ↔ s.txInflight = true ∧ s.txDonePending = false := by
  rw [State.txResponseEnabled, Bool.and_eq_true, Bool.not_eq_true']

theorem txResponseEnabled_eq_false :
    s.txResponseEnabled = false ↔ s.txInflight = false ∨ s.txDonePending = true := by
  rw [State.txResponseEnabled, Bool.and_eq_false_iff, Bool.not_eq_false']

/-! ## The receive's responses -/

/-- The state after RX_OK: the frame's bytes, and the latch of its kind (45_interfaces.md R215). -/
def State.frameReceived (s : State) (bytes : List Byte) : State :=
  ((s.putRxFrame bytes).setRxKind kindRxOk).setRxDone true

theorem execRxOk_of_enabled {bytes : List Byte} (hen : s.rxResponseEnabled = true)
    (hlen : bytes.length ≤ Config.maxFrameLen) : execRxOk bytes s = .next (s.frameReceived bytes) := by
  rw [execRxOk, hen, if_neg (Nat.not_lt.2 hlen)]
  rfl

theorem execRxOk_of_too_long {bytes : List Byte} (hen : s.rxResponseEnabled = true)
    (hlen : Config.maxFrameLen < bytes.length) : execRxOk bytes s = .refused .frameTooLong := by
  rw [execRxOk, hen, if_pos hlen]
  rfl

theorem execRxOk_of_disabled (hen : s.rxResponseEnabled = false) (bytes : List Byte) :
    execRxOk bytes s = .refused .rxResponseNotEnabled := by
  rw [execRxOk, hen]
  rfl

theorem execRxCrc_of_enabled (hen : s.rxResponseEnabled = true) (crc : BitVec 16) :
    execRxCrc crc s = .next { (s.dropRxFrame.setRxKind kindRxCrc).setRxDone true with rxCrc := crc } := by
  rw [execRxCrc, hen]
  rfl

theorem execRxCrc_of_disabled (hen : s.rxResponseEnabled = false) (crc : BitVec 16) :
    execRxCrc crc s = .refused .rxResponseNotEnabled := by
  rw [execRxCrc, hen]
  rfl

theorem execRxErr_of_enabled (hen : s.rxResponseEnabled = true) (err : BitVec 8) :
    execRxErr err s = .next { (s.dropRxFrame.setRxKind kindRxErr).setRxDone true with rxErr := err } := by
  rw [execRxErr, hen]
  rfl

theorem execRxErr_of_disabled (hen : s.rxResponseEnabled = false) (err : BitVec 8) :
    execRxErr err s = .refused .rxResponseNotEnabled := by
  rw [execRxErr, hen]
  rfl

/-! ## The transmit's responses -/

theorem execTxOk_of_disabled (hen : s.txResponseEnabled = false) : execTxOk s = .refused .txResponseNotEnabled := by
  rw [execTxOk, hen]
  rfl

theorem execTxErr_of_enabled (hen : s.txResponseEnabled = true) (err : BitVec 8) :
    execTxErr err s = .next { (s.setTxKind kindTxErr).setTxDone true with txErr := err } := by
  rw [execTxErr, hen]
  rfl

theorem execTxErr_of_disabled (hen : s.txResponseEnabled = false) (err : BitVec 8) :
    execTxErr err s = .refused .txResponseNotEnabled := by
  rw [execTxErr, hen]
  rfl

/-! ## What a received frame leaves in the buffer -/

variable {bytes : List Byte}

/-- The length RX_OK latches is the number of its bytes: 125 fits into seven bits. -/
theorem State.toNat_rxLen_frameReceived (hlen : bytes.length ≤ Config.maxFrameLen) :
    (s.frameReceived bytes).rxLen.toNat = bytes.length :=
  toNat_ofNat_length hlen

/-- What the block reads after RX_OK is what the radio handed over (20_memory.md R62 (1)). -/
theorem State.rxFrame_frameReceived (hlen : bytes.length ≤ Config.maxFrameLen) :
    (s.frameReceived bytes).rxFrame = .ok bytes := by
  have hrx : (s.frameReceived bytes).rxLen.toNat = bytes.length := toNat_rxLen_frameReceived hlen
  refine rxFrame_of_read (hrx.trans_le hlen) ?_
  rw [hrx]
  exact bufReadBytes_bufWriteBytes bytes [] 0

/-- The bytes of an earlier frame are gone (20_memory.md R68). -/
theorem State.bufRead_frameReceived_above {a : Nat} (ha : bytes.length ≤ a) :
    bufRead (s.frameReceived bytes).rxBuf a = none := by
  have habove := bufRead_bufWriteBytes_above bytes [] 0 a (by omega)
  exact habove.trans (bufRead_nil a)

end

/-! ## The statements -/

/-- Settles O34: an enabled RX_OK whose frame fits has one path, which writes the buffer from empty. -/
theorem receivedFrameIsHandedOver : Obligations.ReceivedFrameIsHandedOver := by
  intro s bytes harmed hdone hlen
  exact ⟨s.frameReceived bytes, execRxOk_of_enabled (rxResponseEnabled_eq_true.2 ⟨harmed, hdone⟩) hlen,
    State.rxFrame_frameReceived hlen, State.toNat_rxLen_frameReceived hlen, rfl, rfl,
    fun _ ha => State.bufRead_frameReceived_above ha, rfl⟩

/-- Settles O33: each command's row has one path, which appends the command. -/
theorem radioCommandsJoinTheTrace : Obligations.RadioCommandsJoinTheTrace :=
  fun _ => ⟨fun _ => rfl, rfl, rfl, fun _ => rfl⟩

/-- Settles O35: an enabled response has one path, and its named updates are the statement's fields. -/
theorem faultAndTransmitResponsesAreLatched : Obligations.FaultAndTransmitResponsesAreLatched := by
  refine fun s => ⟨fun harmed hdone => ?receive, fun hinflight hdone => ?transmit⟩
  case receive =>
    have hen := rxResponseEnabled_eq_true.2 ⟨harmed, hdone⟩
    exact ⟨execRxCrc_of_enabled hen, execRxErr_of_enabled hen⟩
  case transmit =>
    have hen := txResponseEnabled_eq_true.2 ⟨hinflight, hdone⟩
    exact ⟨execTxOk_of_enabled hinflight hdone, execTxErr_of_enabled hen⟩

/-- Settles O36: every response checks first that it is enabled, and RX_OK next that its frame fits. -/
theorem disabledResponsesAreRefused : Obligations.DisabledResponsesAreRefused := by
  refine fun s => ⟨fun hoff => ?receive, fun hoff => ?transmit, fun harmed hdone b hlen => ?tooLong⟩
  case receive =>
    have hen := rxResponseEnabled_eq_false.2 hoff
    exact ⟨execRxOk_of_disabled hen, execRxCrc_of_disabled hen, execRxErr_of_disabled hen⟩
  case transmit =>
    have hen := txResponseEnabled_eq_false.2 hoff
    exact ⟨execTxOk_of_disabled hen, execTxErr_of_disabled hen⟩
  case tooLong => exact execRxOk_of_too_long (rxResponseEnabled_eq_true.2 ⟨harmed, hdone⟩) hlen

/-- Settles O38: each transaction's row has one path, which emits the record on `CURRENT()`; the fields the row does not
give are the record's defaults, 0. -/
theorem eventTransactionsAppendOneRecord : Obligations.EventTransactionsAppendOneRecord :=
  fun _ _ => ⟨fun _ _ _ _ _ => rfl, fun _ _ => rfl, fun _ => rfl, fun _ => rfl, fun _ => rfl, fun _ _ => rfl⟩

end Sys2Proof.Machine
end

section
/-! SUPPORT. Reset, and when hops happen (70_reset_and_hazards.md): what holds a hop up in a fair run, and how the ticks
of a timed schedule bound the hops. -/

namespace Sys2Proof.Machine

/-! ## Reset -/

/-- Reset is applied in every state, in state code 7 too. -/
theorem runNext_reset (s : State) : runNext .reset s = .next s.applyReset := if_neg fun h => h.2 rfl

/-- Settles O47: a reset is the reset state with the rest of the agenda, whatever state it finds. -/
theorem resetSetsTheSpecifiedValues : Obligations.ResetSetsTheSpecifiedValues := by
  intro s rest ha
  have hreset : step s = .next (State.reset.setAgenda rest) :=
    (step_of_agenda_cons ha).trans (runNext_reset _)
  exact ⟨_, hreset, rfl, rfl, rfl, rfl, rfl, rfl, rfl, rfl, rfl, rfl, rfl⟩

/-! ## A latched tick in a fair run -/

section
variable {s t : State}

/-- The move of S_IDLE arms a receive. -/
theorem EnabledMove.st_of_idle (h : EnabledMove s t) (hidle : s.st = stIdle) : t.st = stRacing := by
  cases h with
  | arm _ => rfl
  | boot hst | rxWins hst _ | hopWins hst _ | reportRx hst _ _ | hop hst | reportTx hst _ | rest hst =>
    exact absurd (hst.symm.trans hidle) (by decide)

/-- A race with a tick latched is the hop's, or that of a receive which RX_FIRST prefers and which leaves the tick
latched (44_scan_loop.md R184, R185). -/
theorem EnabledMove.of_racing_tick (h : EnabledMove s t) (hracing : s.st = stRacing) (htick : s.tickPending = true) :
    t.st = stHopPrep ∨
      (Config.arbTie = .rxFirst ∧ s.rxDonePending = true ∧ t.st = stRx ∧ t.tickPending = true) := by
  cases h with
  | hopWins _ _ => exact .inl rfl
  | rxWins _ hwin =>
    obtain ⟨hrx, hno | htie⟩ := raceWinner_rx hwin
    · exact absurd (htick.symm.trans hno) Bool.noConfusion
    · exact .inr ⟨htie, hrx, rfl, htick⟩
  | boot hst | arm hst | reportRx hst _ _ | hop hst | reportTx hst _ | rest hst =>
    exact absurd (hst.symm.trans hracing) (by decide)

/-- A step that is no reset loses a latched tick only to a hop (10_state.md R25, 44_scan_loop.md R186). -/
theorem tickPending_kept_or_hop {it : Item} (ha : it.isAgent = true) (hreset : it ≠ .reset) (hrun : it ≠ .run)
    (h : runNext it s = .next t) (htick : s.tickPending = true) : t.tickPending = true ∨ t.st = stHopPrep := by
  obtain hm | ⟨-, hc⟩ := runNext_agent_next ha hreset hrun h
  · obtain hkept | ⟨-, hhop, -⟩ := (fsmMove_next hm).tickPending_eq
    · exact .inl (hkept.trans htick)
    · exact .inr hhop
  · obtain hkept | ⟨hset, -⟩ := hc.tickPending_eq
    · exact .inl (hkept.trans htick)
    · exact .inl hset

end

namespace FairRun

variable {σ : Nat → State} {α : Nat → Item}

/-- At each point the enabled FSM moves, or it stays where it is, enabled, and the item is not its move. -/
theorem moves_or_stays (h : FairRun σ α) (n : Nat) (hen : (σ n).fsmEnabled = true) :
    EnabledMove (σ n) (σ (n + 1)) ∨
      ((σ (n + 1)).st = (σ n).st ∧ (σ (n + 1)).fsmEnabled = true ∧ (α n).movesFsm = false) := by
  obtain ⟨ha, hreset, hrun⟩ := h.agent n
  obtain hm | ⟨hother, hc⟩ := runNext_agent_next ha hreset hrun (h.steps n)
  · exact .inl (fsmMove_next_of_enabled hen hm)
  · exact .inr ⟨hc.st_eq, hc.fsmEnabled hen, hother⟩

/-- An enabled FSM moves in the end, from the state code it is in: if it never did, it would stay enabled and so move. -/
theorem eventually_moves (h : FairRun σ α) (n : Nat) (hen : (σ n).fsmEnabled = true) :
    ∃ m, n ≤ m ∧ (σ m).st = (σ n).st ∧ EnabledMove (σ m) (σ (m + 1)) := by
  by_contra hno
  have hstays : ∀ m, n ≤ m → (σ m).st = (σ n).st → (σ m).fsmEnabled = true →
      (σ (m + 1)).st = (σ m).st ∧ (σ (m + 1)).fsmEnabled = true ∧ (α m).movesFsm = false := fun m hm hst henm =>
    (h.moves_or_stays m henm).resolve_left fun hmove => hno ⟨m, hm, hst, hmove⟩
  have hwaits : ∀ m, n ≤ m → (σ m).st = (σ n).st ∧ (σ m).fsmEnabled = true := fun m hm =>
    Nat.le_induction ⟨rfl, hen⟩ (fun k hk ⟨hst, henk⟩ =>
      have ⟨hst', hen', _⟩ := hstays k hk hst henk
      ⟨hst'.trans hst, hen'⟩) m hm
  obtain ⟨m, hm, hmoves⟩ := h.moves n fun m hm => (hwaits m hm).2
  obtain ⟨hst, henm⟩ := hwaits m hm
  obtain ⟨-, -, hstill⟩ := hstays m hm hst henm
  simp [hstill] at hmoves

/-- A tick latched at some point stays latched as long as no hop begins. -/
theorem tick_stays (h : FairRun σ α) {n m : Nat} (hnm : n ≤ m) (htick : (σ n).tickPending = true)
    (hnohop : ∀ k, n ≤ k → (σ k).st ≠ stHopPrep) : (σ m).tickPending = true :=
  Nat.le_induction htick (fun k hk htickk =>
    have ⟨ha, hreset, hrun⟩ := h.agent k
    (tickPending_kept_or_hop ha hreset hrun (h.steps k) htickk).resolve_right (hnohop _ (Nat.le_succ_of_le hk))) m hnm

/-- The tick latch is set again and again. -/
theorem eventually_ticked (h : FairRun σ α) (n : Nat) : ∃ m, n ≤ m ∧ (σ m).tickPending = true := by
  obtain ⟨m, hm, htick⟩ := h.ticks n
  have hset := Host.Outcome.next.inj ((h.steps m).symm.trans (runNext_of_isTick htick (h.scanInv m).legal))
  exact ⟨m + 1, Nat.le_succ_of_le hm, by rw [hset]; rfl⟩

/-- With the tick latched for ever the FSM comes round to the race and leaves it. -/
theorem eventually_leaves_race (h : FairRun σ α) (n : Nat)
    (hticked : ∀ m, n ≤ m → (σ m).tickPending = true) :
    ∃ m, n ≤ m ∧ (σ m).st = stRacing ∧ EnabledMove (σ m) (σ (m + 1)) := by
  obtain ⟨i, hni, hidle⟩ := h.eventually_idle n
  have henIdle : (σ i).fsmEnabled = true :=
    fsmEnabled_of_not_waiting (by rw [hidle]; decide) (by rw [hidle]; decide)
  obtain ⟨j, hij, hstj, harm⟩ := h.eventually_moves i henIdle
  have hracing : (σ (j + 1)).st = stRacing := harm.st_of_idle (hstj.trans hidle)
  have hnj : n ≤ j + 1 := by omega
  have henRace : (σ (j + 1)).fsmEnabled = true := by
    rw [fsmEnabled_of_racing hracing, hticked _ hnj]
    exact Bool.or_true _
  obtain ⟨m, hm, hstm, hmove⟩ := h.eventually_moves (j + 1) henRace
  exact ⟨m, hnj.trans hm, hstm.trans hracing, hmove⟩

end FairRun

/-- Settles O59: if no hop began after some point, a tick would come and stay latched, and the FSM would come round to
the race and leave it; with the tick latched only a receive preferred by RX_FIRST can then win. -/
theorem onlyReceivesUnderRxFirstHoldUpHops : Obligations.OnlyReceivesUnderRxFirstHoldUpHops := by
  intro σ α h n
  by_cases hhop : ∃ m, n ≤ m ∧ (σ m).st = stHopPrep
  · obtain ⟨m, hm, hst⟩ := hhop
    exact ⟨m, hm, .inl hst⟩
  · have hnohop : ∀ m, n ≤ m → (σ m).st ≠ stHopPrep := fun m hm hst => hhop ⟨m, hm, hst⟩
    obtain ⟨k, hnk, htick⟩ := h.eventually_ticked n
    have hticked : ∀ m, k ≤ m → (σ m).tickPending = true := fun m hm =>
      h.tick_stays hm htick fun j hj => hnohop j (hnk.trans hj)
    obtain ⟨m, hkm, hracing, hmove⟩ := h.eventually_leaves_race k hticked
    have hnm : n ≤ m := hnk.trans hkm
    obtain hprep | ⟨htie, hrx, hst, hkept⟩ := hmove.of_racing_tick hracing (hticked m hkm)
    · exact absurd hprep (hnohop _ (Nat.le_succ_of_le hnm))
    · exact ⟨m, hnm, .inr ⟨htie, hracing, hrx, hticked m hkm, hst, hkept⟩⟩

/-! ## The timed reading -/

/-- The ticks are on time: each has happened when it was due, and the next is not overdue (70_reset_and_hazards.md
R263). -/
def Clock.OnTime (c : Clock) : Prop := c.t0 + c.ticks * Config.hopPeriod ≤ c.now ∧ c.now ≤ c.due

/-- The ticks a state accounts for: those consumed by a hop, each with its RX_ABORT, and the one still latched. -/
def State.ticksSeen (s : State) : Nat := s.rc.count .rxAbort + s.tickPending.toNat

section
variable {c : Clock} {s s' : State} {t : Nat} {it : Item}

/-- What the clock requires of a step: time does not run back or pass the next tick, a tick is on time, and the item is
no script's `run`. -/
theorem Clock.of_allows (h : c.allows s t it = true) :
    c.now ≤ t ∧ t ≤ c.due ∧ (it.isTick = true → t = c.due) ∧ it ≠ .run := by
  simp only [Clock.allows, Bool.and_eq_true, decide_eq_true_eq, bne_iff_ne] at h
  obtain ⟨⟨⟨hnow, hdue⟩, -⟩, hrun⟩ := h
  cases htick : it.isTick with
  | true =>
    have hat : t = c.due := by simpa [htick] using hdue
    exact ⟨hnow, hat.le, fun _ => hat, hrun⟩
  | false => exact ⟨hnow, by simpa [htick] using hdue, fun hf => absurd hf Bool.false_ne_true, hrun⟩

theorem Clock.ticks_after_of_isTick (h : it.isTick = true) : (c.after s s' t it).ticks = c.ticks + 1 := by
  have hreset : it ≠ .reset := by
    rintro rfl
    cases h
  simp [Clock.after, hreset, h]

theorem Clock.le_ticks_after (h : it ≠ .reset) : c.ticks ≤ (c.after s s' t it).ticks := by
  simp only [Clock.after, if_neg h]
  split <;> omega

/-- An allowed step keeps the ticks on time; a reset starts the hop timer again. -/
theorem Clock.OnTime.after (h : c.OnTime) (hallow : c.allows s t it = true) : (c.after s s' t it).OnTime := by
  obtain ⟨hpast, -⟩ := h
  obtain ⟨hnow, hdue, hat, -⟩ := Clock.of_allows hallow
  by_cases hreset : it = .reset
  · subst hreset
    simp [Clock.OnTime, Clock.after, Clock.due]
  · cases htick : it.isTick with
    | true =>
      simp only [Clock.OnTime, Clock.after, Clock.due, if_neg hreset, htick, if_true, hat htick, Nat.add_one_mul]
      omega
    | false =>
      simp only [Clock.OnTime, Clock.after, Clock.due, if_neg hreset, htick, Bool.false_eq_true, if_false] at hdue ⊢
      omega

/-- A hop trades the latched tick for its RX_ABORT, and no other move of the FSM touches either. -/
theorem FsmStep.ticksSeen_le (h : FsmStep s s') : s'.ticksSeen ≤ s.ticksSeen := by
  cases h with
  | hopWins _ htick => simp [State.ticksSeen, State.hopWins, htick]
  | hop _ =>
    have hlatch : s.hopPrepared.tickPending = s.tickPending := rfl
    simp [State.ticksSeen, hlatch]
  | boot _ | arm _ => simp [State.ticksSeen]
  | raceWaits _ | rxWins _ _ | reportRx _ _ _ | txWaits _ | reportTx _ _ | rest _ => exact le_rfl

/-- A collaborator's step sees a new tick only as TICK. -/
theorem CollaboratorStep.ticksSeen_le (h : CollaboratorStep it s s') :
    s'.ticksSeen ≤ s.ticksSeen ∨ (it.isTick = true ∧ s'.ticksSeen ≤ s.ticksSeen + 1) := by
  cases h with
  | tick bs hit =>
    refine .inr ⟨by rw [hit]; rfl, ?_⟩
    simp only [State.ticksSeen, State.setTick_rc, State.setTick_tickPending, Bool.toNat_true]
    omega
  | rxOk _ _ _ | rxCrc _ _ | rxErr _ _ | txOk _ | txErr _ _ => exact .inl le_rfl

/-- An allowed agent's step keeps the ticks seen within the ticks counted. -/
theorem ticksSeen_le_after (ha : it.isAgent = true) (hallow : c.allows s t it = true)
    (h : runNext it s = .next s') (hseen : s.ticksSeen ≤ c.ticks) :
    s'.ticksSeen ≤ (c.after s s' t it).ticks := by
  obtain ⟨-, -, -, hrun⟩ := Clock.of_allows hallow
  by_cases hreset : it = .reset
  · subst hreset
    cases (runNext_reset s).symm.trans h
    exact Nat.zero_le _
  · have hcounted : c.ticks ≤ (c.after s s' t it).ticks := Clock.le_ticks_after hreset
    obtain hm | ⟨-, hc⟩ := runNext_agent_next ha hreset hrun h
    · exact ((fsmMove_next hm).ticksSeen_le.trans hseen).trans hcounted
    · obtain hkept | ⟨htick, hone⟩ := hc.ticksSeen_le
      · exact (hkept.trans hseen).trans hcounted
      · rw [Clock.ticks_after_of_isTick htick]
        exact hone.trans (Nat.succ_le_succ hseen)

/-- What a timed schedule keeps: the ticks are on time, and no more of them are seen than have happened. -/
def TicksBound (c : Clock) (s : State) : Prop := c.OnTime ∧ s.ticksSeen ≤ c.ticks

theorem TicksBound.after (h : TicksBound c s) (ha : it.isAgent = true) (hallow : c.allows s t it = true)
    (hnext : runNext it s = .next s') : TicksBound (c.after s s' t it) s' := by
  obtain ⟨hontime, hseen⟩ := h
  exact ⟨hontime.after hallow, ticksSeen_le_after ha hallow hnext hseen⟩

/-- What each allowed agent's step keeps holds after a whole timed schedule of them. -/
theorem timedRun_keeps {P : Clock → State → Prop}
    (hstep : ∀ (c : Clock) (s s' : State) (t : Nat) (it : Item), it.isAgent = true → c.allows s t it = true →
      runNext it s = .next s' → P c s → P (c.after s s' t it) s')
    {l : List (Nat × Item)} (hl : ∀ x ∈ l, x.2.isAgent = true) {c' : Clock} (h : P c s)
    (hrun : timedRun c s l = some (c', s')) : P c' s' := by
  induction l generalizing c s with
  | nil =>
    cases hrun
    exact h
  | cons x l ih =>
    obtain ⟨t, it⟩ := x
    obtain ⟨ha, hrest⟩ := List.forall_mem_cons.1 hl
    rw [timedRun] at hrun
    split at hrun
    case isTrue hallow =>
      split at hrun
      case h_1 s₁ hnext => exact ih hrest (hstep c s s₁ t it ha hallow hnext h) hrun
      all_goals cases hrun
    case isFalse => cases hrun

end

/-- Settles O60: at reset no tick is due or seen, and every allowed step keeps the ticks on time and the ticks seen
within the ticks counted. -/
theorem timedTicksBoundTheHops : Obligations.TimedTicksBoundTheHops := by
  intro l c s hl hrun
  have hstart : TicksBound { now := 0, t0 := 0, ticks := 0, quietAt := 0 } State.reset :=
    ⟨⟨le_rfl, Nat.zero_le _⟩, le_rfl⟩
  have hstep : ∀ (c : Clock) (s s' : State) (t : Nat) (it : Item), it.isAgent = true → c.allows s t it = true →
      runNext it s = .next s' → TicksBound c s → TicksBound (c.after s s' t it) s' :=
    fun _ _ _ _ _ ha hallow hnext h => h.after ha hallow hnext
  obtain ⟨⟨hpast, hdue⟩, hseen⟩ := timedRun_keeps hstep hl hstart hrun
  exact ⟨hpast, hdue, hseen⟩

end Sys2Proof.Machine
end
